-- ==== Sys2Proof/Word.lean ====
section
/-! DEFINITION. The widths the spec names (00_scope R15: byte, halfword, word, doubleword). -/

namespace Sys2Proof

/-- 1 byte of storage (00_scope R15). -/
abbrev Byte := BitVec 8

/-- A halfword: 2 bytes (00_scope R15). -/
abbrev Half := BitVec 16

/-- A word: 4 bytes, and one half of a general register (00_scope R15, 10_state R21). -/
abbrev Word := BitVec 32

/-- A doubleword: 8 bytes, and a whole general register (00_scope R15, 10_state R20). -/
abbrev Dword := BitVec 64

/-- The 2-bit condition code (10_state R28). -/
abbrev CondCode := BitVec 2

end Sys2Proof
end

