-- ==== Sys2Proof/Machine/Flags.lean ====
section
/-! DEFINITION. The results and condition codes of 10_state R29 to R35, 45_population_count R230 and 41_high_word_b R156,
for operands of any width. -/

namespace Sys2Proof.Machine

/-- What an operation delivers: its value, the condition code, and whether a signed overflow occurred (10_state R29;
false for every operation that raises no exception). -/
structure Arith (w : Nat) where
  value : BitVec w
  cc : CondCode
  overflow : Bool
  deriving DecidableEq, Repr

/-- The condition code of a signed result: 3 on overflow, else 0, 1 or 2 by its sign (10_state R29, R30, R35). -/
def signedCode {w : Nat} (overflow : Bool) (r : BitVec w) : CondCode :=
  if overflow then 3#2 else if r = 0#w then 0#2 else if r.msb then 1#2 else 2#2

/-- add_signed_N (10_state R29): the sum truncated, overflow when both signs differ from the sum's. -/
def addSigned {w : Nat} (a b : BitVec w) : Arith w :=
  let overflow := a.msb == b.msb && (a + b).msb != a.msb
  { value := a + b, cc := signedCode overflow (a + b), overflow := overflow }

/-- sub_signed_N (10_state R30): the difference truncated. -/
def subSigned {w : Nat} (a b : BitVec w) : Arith w :=
  let overflow := a.msb != b.msb && (a - b).msb != a.msb
  { value := a - b, cc := signedCode overflow (a - b), overflow := overflow }

/-- add_logical_N (10_state R31): the condition code is twice the carry, plus one for a result that is not zero. -/
def addLogical {w : Nat} (a b : BitVec w) : Arith w :=
  let carry := decide (2 ^ w ≤ a.toNat + b.toNat)
  { value := a + b,
    cc := if a + b = 0#w then (if carry then 2#2 else 0#2) else (if carry then 3#2 else 1#2),
    overflow := false }

/-- sub_logical_N (10_state R32): 1 not zero and borrow, 2 zero, 3 not zero and no borrow. -/
def subLogical {w : Nat} (a b : BitVec w) : Arith w :=
  { value := a - b,
    cc := if a - b = 0#w then 2#2 else if b.toNat ≤ a.toNat then 3#2 else 1#2,
    overflow := false }

/-- cmp_signed (10_state R33): 0 equal, 1 first operand low, 2 first operand high. -/
def compareSigned {w : Nat} (a b : BitVec w) : CondCode :=
  if a.toInt = b.toInt then 0#2 else if a.toInt < b.toInt then 1#2 else 2#2

/-- cmp_logical (10_state R33). -/
def compareLogical {w : Nat} (a b : BitVec w) : CondCode :=
  if a.toNat = b.toNat then 0#2 else if a.toNat < b.toNat then 1#2 else 2#2

/-- A bitwise result with its condition code, cc_bitwise (10_state R34): 0 zero, 1 not zero. -/
def bitwise {w : Nat} (r : BitVec w) : Arith w :=
  { value := r, cc := if r = 0#w then 0#2 else 1#2, overflow := false }

/-- AND with its condition code (10_state R34). -/
def bitwiseAnd {w : Nat} (a b : BitVec w) : Arith w := bitwise (a &&& b)

/-- Exclusive OR with its condition code (10_state R34). -/
def bitwiseXor {w : Nat} (a b : BitVec w) : Arith w := bitwise (a ^^^ b)

/-- OR with its condition code (10_state R34). -/
def bitwiseOr {w : Nat} (a b : BitVec w) : Arith w := bitwise (a ||| b)

/-- shl_signed_32 (10_state R35): the 31-bit numeric part shifted left under an unmoved sign; overflow when a bit unlike
the sign is shifted out (log 21). -/
def shiftLeftSigned (a : Word) (n : Nat) : Arith 32 :=
  let numeric : BitVec 31 := a.extractLsb' 0 31
  let overflow := (List.range (min n 31)).any fun i => numeric.getMsbD i != a.msb
  let r : Word := BitVec.ofBool a.msb ++ numeric <<< n
  { value := r, cc := signedCode overflow r, overflow := overflow }

/-- shr_signed_32 (10_state R35): copies of the sign enter on the left; no overflow. -/
def shiftRightSigned (a : Word) (n : Nat) : Arith 32 :=
  { value := a.sshiftRight n, cc := signedCode false (a.sshiftRight n), overflow := false }

/-- The number of one bits of a byte (45_population_count R230). -/
def onesInByte (b : Byte) : Byte := BitVec.ofNat 8 ((List.range 8).countP fun i => b.getLsbD i)

/-- The count of one bits of byte `k` of a doubleword, byte 0 its leftmost (45_population_count R230). -/
def onesOfByte (v : Dword) (k : Nat) : Byte := onesInByte (v.extractLsb' (8 * (7 - k)) 8)

/-- POPCNT (45_population_count R230): the eight counts, each in its byte's place (log 22). -/
def populationCount (v : Dword) : Arith 64 :=
  bitwise (onesOfByte v 0 ++ onesOfByte v 1 ++ onesOfByte v 2 ++ onesOfByte v 3 ++
    onesOfByte v 4 ++ onesOfByte v 5 ++ onesOfByte v 6 ++ onesOfByte v 7)

/-- The selected bits of one half, as ones: from `start` to `last`, bit 0 the leftmost, wrapping inside the half when
start is the greater (41_high_word_b R156). -/
def selectedBits (start last : Nat) : Word :=
  let fromStart := BitVec.allOnes 32 >>> start
  let upToLast := BitVec.allOnes 32 <<< (31 - last)
  if start ≤ last then fromStart &&& upToLast else fromStart ||| upToLast

/-- The affected half after RISBHG or RISBLG (41_high_word_b R156): the selected bits come from the rotated operand, the
remaining ones are the old ones or, when I4 bit 0 is one, zeros. -/
def insertSelected (old rotated : Word) (i3 i4 : Byte) : Word :=
  let selected := selectedBits (i3.extractLsb' 0 5).toNat (i4.extractLsb' 0 5).toNat
  (rotated &&& selected) ||| (if i4.msb then 0#32 else old &&& ~~~selected)

/-- The 64-bit second operand rotated left by I5 bits 2-7 (41_high_word_b R156). -/
def rotatedOperand (src : Dword) (i5 : Byte) : Dword := src.rotateLeft (i5.extractLsb' 0 6).toNat

end Sys2Proof.Machine
end

