-- ==== Sys2Proof/Config.lean ====
section
/-! DEFINITION. What the spec leaves open and a run cannot know: the two draws of 00_scope R10. Neither has a body, so
nothing can be proved of what it answers. -/

namespace Sys2Proof

/-- `LPD_CC` (00_scope R10, 42_interlocked_access R181, 92 D12): whether the n-th draw reports that one of the two
operands of LPD or LPDG was altered, that is, condition code 3 and not 0. A FREE VALUE (log 10). -/
opaque Config.lpdAltered : Nat → Bool

/-- `LOC_FALSE_ACCESS` (00_scope R10, 43_load_store_on_condition R199, 92 D13): whether the n-th draw lets LOC, LOCG,
STOC or STOCG test its operand for access when its condition is false. A FREE VALUE (log 11). -/
opaque Config.falseConditionTests : Nat → Bool

end Sys2Proof
end

