-- ==== Sys2Proof/Syntax.lean ====
section
/-! DEFINITION. The instructions: one constructor per row of spec/opcode_table.json, in the table's order, its operands
in the order the assembler writes them (30_encoding R121). Unused fields (30_encoding R115) are no operands. -/

namespace Sys2Proof

/-- The number of a general or floating-point register, 0 to 15 (10_state R20, 30_encoding R92). -/
abbrev Reg := Fin 16

/-- A 4-bit mask or modifier field (30_encoding R92). -/
abbrev Mask := BitVec 4

/-- A 12-bit unsigned displacement (30_encoding R107). -/
abbrev Disp12 := BitVec 12

/-- A 20-bit signed displacement, DH2 followed by DL2 (30_encoding R106). -/
abbrev Disp20 := BitVec 20

/-- One constructor per row of the opcode table. A base or index field holds the register number as encoded: 0 there
means no register (30_encoding R104), which address generation decides. -/
inductive Instr where
  /-- AHHHR, ADD HIGH: RRF-a, R131. -/
  | ahhhr (r1 r2 r3 : Reg)
  /-- AHHLR, ADD HIGH: RRF-a, R132. -/
  | ahhlr (r1 r2 r3 : Reg)
  /-- AIH, ADD IMMEDIATE HIGH: RIL-a, R133. -/
  | aih (r1 : Reg) (i2 : Word)
  /-- ALHHHR, ADD LOGICAL HIGH: RRF-a, R134. -/
  | alhhhr (r1 r2 r3 : Reg)
  /-- ALHHLR, ADD LOGICAL HIGH: RRF-a, R135. -/
  | alhhlr (r1 r2 r3 : Reg)
  /-- ALSIH, ADD LOGICAL WITH SIGNED IMMEDIATE HIGH: RIL-a, R136. -/
  | alsih (r1 : Reg) (i2 : Word)
  /-- ALSIHN, ADD LOGICAL WITH SIGNED IMMEDIATE HIGH: RIL-a, R137. -/
  | alsihn (r1 : Reg) (i2 : Word)
  /-- BRCTH, BRANCH RELATIVE ON COUNT HIGH: RIL-b, R138. -/
  | brcth (r1 : Reg) (ri2 : Word)
  /-- CHHR, COMPARE HIGH: RRE, R139. -/
  | chhr (r1 r2 : Reg)
  /-- CHLR, COMPARE HIGH: RRE, R140. -/
  | chlr (r1 r2 : Reg)
  /-- CHF, COMPARE HIGH: RXY, R141. -/
  | chf (r1 : Reg) (d2 : Disp20) (x2 b2 : Reg)
  /-- CIH, COMPARE IMMEDIATE HIGH: RIL-a, R142. -/
  | cih (r1 : Reg) (i2 : Word)
  /-- CLHHR, COMPARE LOGICAL HIGH: RRE, R143. -/
  | clhhr (r1 r2 : Reg)
  /-- CLHLR, COMPARE LOGICAL HIGH: RRE, R144. -/
  | clhlr (r1 r2 : Reg)
  /-- CLHF, COMPARE LOGICAL HIGH: RXY, R145. -/
  | clhf (r1 : Reg) (d2 : Disp20) (x2 b2 : Reg)
  /-- CLIH, COMPARE LOGICAL IMMEDIATE HIGH: RIL-a, R146. -/
  | clih (r1 : Reg) (i2 : Word)
  /-- LBH, LOAD BYTE HIGH: RXY, R151. -/
  | lbh (r1 : Reg) (d2 : Disp20) (x2 b2 : Reg)
  /-- LHH, LOAD HALFWORD HIGH: RXY, R152. -/
  | lhh (r1 : Reg) (d2 : Disp20) (x2 b2 : Reg)
  /-- LFH, LOAD HIGH: RXY, R153. -/
  | lfh (r1 : Reg) (d2 : Disp20) (x2 b2 : Reg)
  /-- LLCH, LOAD LOGICAL CHARACTER HIGH: RXY, R154. -/
  | llch (r1 : Reg) (d2 : Disp20) (x2 b2 : Reg)
  /-- LLHH, LOAD LOGICAL HALFWORD HIGH: RXY, R155. -/
  | llhh (r1 : Reg) (d2 : Disp20) (x2 b2 : Reg)
  /-- RISBHG, ROTATE THEN INSERT SELECTED BITS HIGH: RIE-f, R157. -/
  | risbhg (r1 r2 : Reg) (i3 i4 i5 : Byte)
  /-- RISBLG, ROTATE THEN INSERT SELECTED BITS LOW: RIE-f, R158. -/
  | risblg (r1 r2 : Reg) (i3 i4 i5 : Byte)
  /-- STCH, STORE CHARACTER HIGH: RXY, R159. -/
  | stch (r1 : Reg) (d2 : Disp20) (x2 b2 : Reg)
  /-- STHH, STORE HALFWORD HIGH: RXY, R160. -/
  | sthh (r1 : Reg) (d2 : Disp20) (x2 b2 : Reg)
  /-- STFH, STORE HIGH: RXY, R161. -/
  | stfh (r1 : Reg) (d2 : Disp20) (x2 b2 : Reg)
  /-- SHHHR, SUBTRACT HIGH: RRF-a, R162. -/
  | shhhr (r1 r2 r3 : Reg)
  /-- SHHLR, SUBTRACT HIGH: RRF-a, R163. -/
  | shhlr (r1 r2 r3 : Reg)
  /-- SLHHHR, SUBTRACT LOGICAL HIGH: RRF-a, R164. -/
  | slhhhr (r1 r2 r3 : Reg)
  /-- SLHHLR, SUBTRACT LOGICAL HIGH: RRF-a, R165. -/
  | slhhlr (r1 r2 r3 : Reg)
  /-- LAA, LOAD AND ADD: RSY-a, R171. -/
  | laa (r1 r3 : Reg) (d2 : Disp20) (b2 : Reg)
  /-- LAAG, LOAD AND ADD: RSY-a, R172. -/
  | laag (r1 r3 : Reg) (d2 : Disp20) (b2 : Reg)
  /-- LAAL, LOAD AND ADD LOGICAL: RSY-a, R173. -/
  | laal (r1 r3 : Reg) (d2 : Disp20) (b2 : Reg)
  /-- LAALG, LOAD AND ADD LOGICAL: RSY-a, R174. -/
  | laalg (r1 r3 : Reg) (d2 : Disp20) (b2 : Reg)
  /-- LAN, LOAD AND AND: RSY-a, R175. -/
  | lan (r1 r3 : Reg) (d2 : Disp20) (b2 : Reg)
  /-- LANG, LOAD AND AND: RSY-a, R176. -/
  | lang (r1 r3 : Reg) (d2 : Disp20) (b2 : Reg)
  /-- LAX, LOAD AND EXCLUSIVE OR: RSY-a, R177. -/
  | lax (r1 r3 : Reg) (d2 : Disp20) (b2 : Reg)
  /-- LAXG, LOAD AND EXCLUSIVE OR: RSY-a, R178. -/
  | laxg (r1 r3 : Reg) (d2 : Disp20) (b2 : Reg)
  /-- LAO, LOAD AND OR: RSY-a, R179. -/
  | lao (r1 r3 : Reg) (d2 : Disp20) (b2 : Reg)
  /-- LAOG, LOAD AND OR: RSY-a, R180. -/
  | laog (r1 r3 : Reg) (d2 : Disp20) (b2 : Reg)
  /-- LPD, LOAD PAIR DISJOINT: SSF, R181. -/
  | lpd (r3 : Reg) (d1 : Disp12) (b1 : Reg) (d2 : Disp12) (b2 : Reg)
  /-- LPDG, LOAD PAIR DISJOINT: SSF, R182. -/
  | lpdg (r3 : Reg) (d1 : Disp12) (b1 : Reg) (d2 : Disp12) (b2 : Reg)
  /-- ASI, ADD IMMEDIATE: SIY, R183. -/
  | asi (d1 : Disp20) (b1 : Reg) (i2 : Byte)
  /-- AGSI, ADD IMMEDIATE: SIY, R184. -/
  | agsi (d1 : Disp20) (b1 : Reg) (i2 : Byte)
  /-- ALSI, ADD LOGICAL WITH SIGNED IMMEDIATE: SIY, R185. -/
  | alsi (d1 : Disp20) (b1 : Reg) (i2 : Byte)
  /-- ALGSI, ADD LOGICAL WITH SIGNED IMMEDIATE: SIY, R186. -/
  | algsi (d1 : Disp20) (b1 : Reg) (i2 : Byte)
  /-- LOCR, LOAD ON CONDITION: RRF-c, R191. -/
  | locr (r1 r2 : Reg) (m3 : Mask)
  /-- LOCGR, LOAD ON CONDITION: RRF-c, R192. -/
  | locgr (r1 r2 : Reg) (m3 : Mask)
  /-- LOC, LOAD ON CONDITION: RSY-b, R193. -/
  | loc (r1 : Reg) (d2 : Disp20) (b2 : Reg) (m3 : Mask)
  /-- LOCG, LOAD ON CONDITION: RSY-b, R194. -/
  | locg (r1 : Reg) (d2 : Disp20) (b2 : Reg) (m3 : Mask)
  /-- STOC, STORE ON CONDITION: RSY-b, R195. -/
  | stoc (r1 : Reg) (d2 : Disp20) (b2 : Reg) (m3 : Mask)
  /-- STOCG, STORE ON CONDITION: RSY-b, R196. -/
  | stocg (r1 : Reg) (d2 : Disp20) (b2 : Reg) (m3 : Mask)
  /-- ARK, ADD: RRF-a, R201. -/
  | ark (r1 r2 r3 : Reg)
  /-- AGRK, ADD: RRF-a, R202. -/
  | agrk (r1 r2 r3 : Reg)
  /-- AHIK, ADD IMMEDIATE: RIE-d, R203. -/
  | ahik (r1 r3 : Reg) (i2 : Half)
  /-- AGHIK, ADD IMMEDIATE: RIE-d, R204. -/
  | aghik (r1 r3 : Reg) (i2 : Half)
  /-- ALRK, ADD LOGICAL: RRF-a, R205. -/
  | alrk (r1 r2 r3 : Reg)
  /-- ALGRK, ADD LOGICAL: RRF-a, R206. -/
  | algrk (r1 r2 r3 : Reg)
  /-- ALHSIK, ADD LOGICAL WITH SIGNED IMMEDIATE: RIE-d, R207. -/
  | alhsik (r1 r3 : Reg) (i2 : Half)
  /-- ALGHSIK, ADD LOGICAL WITH SIGNED IMMEDIATE: RIE-d, R208. -/
  | alghsik (r1 r3 : Reg) (i2 : Half)
  /-- NRK, AND: RRF-a, R209. -/
  | nrk (r1 r2 r3 : Reg)
  /-- NGRK, AND: RRF-a, R210. -/
  | ngrk (r1 r2 r3 : Reg)
  /-- XRK, EXCLUSIVE OR: RRF-a, R211. -/
  | xrk (r1 r2 r3 : Reg)
  /-- XGRK, EXCLUSIVE OR: RRF-a, R212. -/
  | xgrk (r1 r2 r3 : Reg)
  /-- ORK, OR: RRF-a, R213. -/
  | ork (r1 r2 r3 : Reg)
  /-- OGRK, OR: RRF-a, R214. -/
  | ogrk (r1 r2 r3 : Reg)
  /-- SLAK, SHIFT LEFT SINGLE: RSY-a, R215. -/
  | slak (r1 r3 : Reg) (d2 : Disp20) (b2 : Reg)
  /-- SLLK, SHIFT LEFT SINGLE LOGICAL: RSY-a, R216. -/
  | sllk (r1 r3 : Reg) (d2 : Disp20) (b2 : Reg)
  /-- SRAK, SHIFT RIGHT SINGLE: RSY-a, R217. -/
  | srak (r1 r3 : Reg) (d2 : Disp20) (b2 : Reg)
  /-- SRLK, SHIFT RIGHT SINGLE LOGICAL: RSY-a, R218. -/
  | srlk (r1 r3 : Reg) (d2 : Disp20) (b2 : Reg)
  /-- SRK, SUBTRACT: RRF-a, R219. -/
  | srk (r1 r2 r3 : Reg)
  /-- SGRK, SUBTRACT: RRF-a, R220. -/
  | sgrk (r1 r2 r3 : Reg)
  /-- SLRK, SUBTRACT LOGICAL: RRF-a, R221. -/
  | slrk (r1 r2 r3 : Reg)
  /-- SLGRK, SUBTRACT LOGICAL: RRF-a, R222. -/
  | slgrk (r1 r2 r3 : Reg)
  /-- POPCNT, POPULATION COUNT: RRE, R230. -/
  | popcnt (r1 r2 : Reg)
  /-- BCR 15,0, BRANCH ON CONDITION (serialization and checkpoint synchronization): RR, R330. -/
  | bcr_15_0
  /-- BCR 14,0, BRANCH ON CONDITION (serialization only): RR, R331. -/
  | bcr_14_0
  /-- CXLFBR, CONVERT FROM LOGICAL (extended BFP <- 32): RRF-e, R243. -/
  | cxlfbr (r1 : Reg) (m3 : Mask) (r2 : Reg) (m4 : Mask)
  /-- CDLFBR, CONVERT FROM LOGICAL (long BFP <- 32): RRF-e, R244. -/
  | cdlfbr (r1 : Reg) (m3 : Mask) (r2 : Reg) (m4 : Mask)
  /-- CELFBR, CONVERT FROM LOGICAL (short BFP <- 32): RRF-e, R245. -/
  | celfbr (r1 : Reg) (m3 : Mask) (r2 : Reg) (m4 : Mask)
  /-- CXLGBR, CONVERT FROM LOGICAL (extended BFP <- 64): RRF-e, R246. -/
  | cxlgbr (r1 : Reg) (m3 : Mask) (r2 : Reg) (m4 : Mask)
  /-- CDLGBR, CONVERT FROM LOGICAL (long BFP <- 64): RRF-e, R247. -/
  | cdlgbr (r1 : Reg) (m3 : Mask) (r2 : Reg) (m4 : Mask)
  /-- CELGBR, CONVERT FROM LOGICAL (short BFP <- 64): RRF-e, R248. -/
  | celgbr (r1 : Reg) (m3 : Mask) (r2 : Reg) (m4 : Mask)
  /-- CLFXBR, CONVERT TO LOGICAL (32 <- extended BFP): RRF-e, R249. -/
  | clfxbr (r1 : Reg) (m3 : Mask) (r2 : Reg) (m4 : Mask)
  /-- CLFDBR, CONVERT TO LOGICAL (32 <- long BFP): RRF-e, R250. -/
  | clfdbr (r1 : Reg) (m3 : Mask) (r2 : Reg) (m4 : Mask)
  /-- CLFEBR, CONVERT TO LOGICAL (32 <- short BFP): RRF-e, R251. -/
  | clfebr (r1 : Reg) (m3 : Mask) (r2 : Reg) (m4 : Mask)
  /-- CLGXBR, CONVERT TO LOGICAL (64 <- extended BFP): RRF-e, R252. -/
  | clgxbr (r1 : Reg) (m3 : Mask) (r2 : Reg) (m4 : Mask)
  /-- CLGDBR, CONVERT TO LOGICAL (64 <- long BFP): RRF-e, R253. -/
  | clgdbr (r1 : Reg) (m3 : Mask) (r2 : Reg) (m4 : Mask)
  /-- CLGEBR, CONVERT TO LOGICAL (64 <- short BFP): RRF-e, R254. -/
  | clgebr (r1 : Reg) (m3 : Mask) (r2 : Reg) (m4 : Mask)
  /-- SRNMB, SET BFP ROUNDING MODE: S, R255. -/
  | srnmb (d2 : Disp12) (b2 : Reg)
  /-- CXFBRA, CONVERT FROM FIXED (extended BFP <- 32): RRF-e, R256. -/
  | cxfbra (r1 : Reg) (m3 : Mask) (r2 : Reg) (m4 : Mask)
  /-- CDFBRA, CONVERT FROM FIXED (long BFP <- 32): RRF-e, R257. -/
  | cdfbra (r1 : Reg) (m3 : Mask) (r2 : Reg) (m4 : Mask)
  /-- CEFBRA, CONVERT FROM FIXED (short BFP <- 32): RRF-e, R258. -/
  | cefbra (r1 : Reg) (m3 : Mask) (r2 : Reg) (m4 : Mask)
  /-- CXGBRA, CONVERT FROM FIXED (extended BFP <- 64): RRF-e, R259. -/
  | cxgbra (r1 : Reg) (m3 : Mask) (r2 : Reg) (m4 : Mask)
  /-- CDGBRA, CONVERT FROM FIXED (long BFP <- 64): RRF-e, R260. -/
  | cdgbra (r1 : Reg) (m3 : Mask) (r2 : Reg) (m4 : Mask)
  /-- CEGBRA, CONVERT FROM FIXED (short BFP <- 64): RRF-e, R261. -/
  | cegbra (r1 : Reg) (m3 : Mask) (r2 : Reg) (m4 : Mask)
  /-- CFXBRA, CONVERT TO FIXED (32 <- extended BFP): RRF-e, R262. -/
  | cfxbra (r1 : Reg) (m3 : Mask) (r2 : Reg) (m4 : Mask)
  /-- CFDBRA, CONVERT TO FIXED (32 <- long BFP): RRF-e, R263. -/
  | cfdbra (r1 : Reg) (m3 : Mask) (r2 : Reg) (m4 : Mask)
  /-- CFEBRA, CONVERT TO FIXED (32 <- short BFP): RRF-e, R264. -/
  | cfebra (r1 : Reg) (m3 : Mask) (r2 : Reg) (m4 : Mask)
  /-- CGXBRA, CONVERT TO FIXED (64 <- extended BFP): RRF-e, R265. -/
  | cgxbra (r1 : Reg) (m3 : Mask) (r2 : Reg) (m4 : Mask)
  /-- CGDBRA, CONVERT TO FIXED (64 <- long BFP): RRF-e, R266. -/
  | cgdbra (r1 : Reg) (m3 : Mask) (r2 : Reg) (m4 : Mask)
  /-- CGEBRA, CONVERT TO FIXED (64 <- short BFP): RRF-e, R267. -/
  | cgebra (r1 : Reg) (m3 : Mask) (r2 : Reg) (m4 : Mask)
  /-- FIXBRA, LOAD FP INTEGER (extended BFP): RRF-e, R268. -/
  | fixbra (r1 : Reg) (m3 : Mask) (r2 : Reg) (m4 : Mask)
  /-- FIDBRA, LOAD FP INTEGER (long BFP): RRF-e, R269. -/
  | fidbra (r1 : Reg) (m3 : Mask) (r2 : Reg) (m4 : Mask)
  /-- FIEBRA, LOAD FP INTEGER (short BFP): RRF-e, R270. -/
  | fiebra (r1 : Reg) (m3 : Mask) (r2 : Reg) (m4 : Mask)
  /-- LDXBRA, LOAD ROUNDED (long BFP <- extended): RRF-e, R271. -/
  | ldxbra (r1 : Reg) (m3 : Mask) (r2 : Reg) (m4 : Mask)
  /-- LEXBRA, LOAD ROUNDED (short BFP <- extended): RRF-e, R272. -/
  | lexbra (r1 : Reg) (m3 : Mask) (r2 : Reg) (m4 : Mask)
  /-- LEDBRA, LOAD ROUNDED (short BFP <- long): RRF-e, R273. -/
  | ledbra (r1 : Reg) (m3 : Mask) (r2 : Reg) (m4 : Mask)
  /-- CXFTR, CONVERT FROM FIXED (extended DFP <- 32): RRF-e, R274. -/
  | cxftr (r1 : Reg) (m3 : Mask) (r2 : Reg) (m4 : Mask)
  /-- CDFTR, CONVERT FROM FIXED (long DFP <- 32): RRF-e, R275. -/
  | cdftr (r1 : Reg) (m3 : Mask) (r2 : Reg) (m4 : Mask)
  /-- CXLFTR, CONVERT FROM LOGICAL (extended DFP <- 32): RRF-e, R276. -/
  | cxlftr (r1 : Reg) (m3 : Mask) (r2 : Reg) (m4 : Mask)
  /-- CDLFTR, CONVERT FROM LOGICAL (long DFP <- 32): RRF-e, R277. -/
  | cdlftr (r1 : Reg) (m3 : Mask) (r2 : Reg) (m4 : Mask)
  /-- CXLGTR, CONVERT FROM LOGICAL (extended DFP <- 64): RRF-e, R278. -/
  | cxlgtr (r1 : Reg) (m3 : Mask) (r2 : Reg) (m4 : Mask)
  /-- CDLGTR, CONVERT FROM LOGICAL (long DFP <- 64): RRF-e, R279. -/
  | cdlgtr (r1 : Reg) (m3 : Mask) (r2 : Reg) (m4 : Mask)
  /-- CFXTR, CONVERT TO FIXED (32 <- extended DFP): RRF-e, R280. -/
  | cfxtr (r1 : Reg) (m3 : Mask) (r2 : Reg) (m4 : Mask)
  /-- CFDTR, CONVERT TO FIXED (32 <- long DFP): RRF-e, R281. -/
  | cfdtr (r1 : Reg) (m3 : Mask) (r2 : Reg) (m4 : Mask)
  /-- CLFXTR, CONVERT TO LOGICAL (32 <- extended DFP): RRF-e, R282. -/
  | clfxtr (r1 : Reg) (m3 : Mask) (r2 : Reg) (m4 : Mask)
  /-- CLFDTR, CONVERT TO LOGICAL (32 <- long DFP): RRF-e, R283. -/
  | clfdtr (r1 : Reg) (m3 : Mask) (r2 : Reg) (m4 : Mask)
  /-- CLGXTR, CONVERT TO LOGICAL (64 <- extended DFP): RRF-e, R284. -/
  | clgxtr (r1 : Reg) (m3 : Mask) (r2 : Reg) (m4 : Mask)
  /-- CLGDTR, CONVERT TO LOGICAL (64 <- long DFP): RRF-e, R285. -/
  | clgdtr (r1 : Reg) (m3 : Mask) (r2 : Reg) (m4 : Mask)
  /-- AXTRA, ADD (extended DFP): RRF-a4, R286. -/
  | axtra (r1 r2 r3 : Reg) (m4 : Mask)
  /-- ADTRA, ADD (long DFP): RRF-a4, R287. -/
  | adtra (r1 r2 r3 : Reg) (m4 : Mask)
  /-- CXGTRA, CONVERT FROM FIXED (extended DFP <- 64): RRF-e, R288. -/
  | cxgtra (r1 : Reg) (m3 : Mask) (r2 : Reg) (m4 : Mask)
  /-- CDGTRA, CONVERT FROM FIXED (long DFP <- 64): RRF-e, R289. -/
  | cdgtra (r1 : Reg) (m3 : Mask) (r2 : Reg) (m4 : Mask)
  /-- CGXTRA, CONVERT TO FIXED (64 <- extended DFP): RRF-e, R290. -/
  | cgxtra (r1 : Reg) (m3 : Mask) (r2 : Reg) (m4 : Mask)
  /-- CGDTRA, CONVERT TO FIXED (64 <- long DFP): RRF-e, R291. -/
  | cgdtra (r1 : Reg) (m3 : Mask) (r2 : Reg) (m4 : Mask)
  /-- DXTRA, DIVIDE (extended DFP): RRF-a4, R292. -/
  | dxtra (r1 r2 r3 : Reg) (m4 : Mask)
  /-- DDTRA, DIVIDE (long DFP): RRF-a4, R293. -/
  | ddtra (r1 r2 r3 : Reg) (m4 : Mask)
  /-- MXTRA, MULTIPLY (extended DFP): RRF-a4, R294. -/
  | mxtra (r1 r2 r3 : Reg) (m4 : Mask)
  /-- MDTRA, MULTIPLY (long DFP): RRF-a4, R295. -/
  | mdtra (r1 r2 r3 : Reg) (m4 : Mask)
  /-- SXTRA, SUBTRACT (extended DFP): RRF-a4, R296. -/
  | sxtra (r1 r2 r3 : Reg) (m4 : Mask)
  /-- SDTRA, SUBTRACT (long DFP): RRF-a4, R297. -/
  | sdtra (r1 r2 r3 : Reg) (m4 : Mask)
  /-- PCKMO, PERFORM CRYPTOGRAPHIC KEY MANAGEMENT OPERATION: RRE, R312. -/
  | pckmo (r1 r2 : Reg)
  /-- KMF, CIPHER MESSAGE WITH CFB: RRE, R315. -/
  | kmf (r1 r2 : Reg)
  /-- KMCTR, CIPHER MESSAGE WITH COUNTER: RRF-a, R316. -/
  | kmctr (r1 r2 r3 : Reg)
  /-- KMO, CIPHER MESSAGE WITH OFB: RRE, R317. -/
  | kmo (r1 r2 : Reg)
  /-- PCC, PERFORM CRYPTOGRAPHIC COMPUTATION: RRE, R318. -/
  | pcc (r1 r2 : Reg)
  deriving DecidableEq, Repr

end Sys2Proof
end

