-- ==== Sys2Proof/WellFormed.lean ====
section
/-! DEFINITION. Well-formed instructions, as far as an instruction alone can tell (30_encoding R127): one that the model
does not refuse, an even R3 in LPD and LPDG, and zeros in the bits of I3, I4 and I5 that the source does not name. Unused
fields (R115) are no operands of an instruction: wellFormedText of Decode.lean demands their zeros of its bytes. -/

namespace Sys2Proof

/-- The unnamed bits of the immediates of RISBHG and RISBLG are zero: I3 bits 0-2, I4 bits 1-2, I5 bits 0-1
(30_encoding R116). -/
def unnamedBitsZero (i3 i4 i5 : Byte) : Bool :=
  i3 &&& 0xE0#8 == 0#8 && i4 &&& 0x60#8 == 0#8 && i5 &&& 0xC0#8 == 0#8

/-- R3 designates an even-odd pair (30_encoding R119). -/
def evenPair (r3 : Reg) : Bool := r3.val % 2 == 0

/-- Whether an instruction is well formed: see the file's heading. The instructions that the model refuses, those of the
floating-point extension (46_floating_point_extension R241) and of the message-security assist (47_message_security_assist
R320), are not. -/
def Instr.wellFormed (i : Instr) : Bool :=
  match i with
  | .lpd r3 _ _ _ _ => evenPair r3
  | .lpdg r3 _ _ _ _ => evenPair r3
  | .risbhg _ _ i3 i4 i5 => unnamedBitsZero i3 i4 i5
  | .risblg _ _ i3 i4 i5 => unnamedBitsZero i3 i4 i5
  | .ahhhr _ _ _ => true
  | .ahhlr _ _ _ => true
  | .aih _ _ => true
  | .alhhhr _ _ _ => true
  | .alhhlr _ _ _ => true
  | .alsih _ _ => true
  | .alsihn _ _ => true
  | .brcth _ _ => true
  | .chhr _ _ => true
  | .chlr _ _ => true
  | .chf _ _ _ _ => true
  | .cih _ _ => true
  | .clhhr _ _ => true
  | .clhlr _ _ => true
  | .clhf _ _ _ _ => true
  | .clih _ _ => true
  | .lbh _ _ _ _ => true
  | .lhh _ _ _ _ => true
  | .lfh _ _ _ _ => true
  | .llch _ _ _ _ => true
  | .llhh _ _ _ _ => true
  | .stch _ _ _ _ => true
  | .sthh _ _ _ _ => true
  | .stfh _ _ _ _ => true
  | .shhhr _ _ _ => true
  | .shhlr _ _ _ => true
  | .slhhhr _ _ _ => true
  | .slhhlr _ _ _ => true
  | .laa _ _ _ _ => true
  | .laag _ _ _ _ => true
  | .laal _ _ _ _ => true
  | .laalg _ _ _ _ => true
  | .lan _ _ _ _ => true
  | .lang _ _ _ _ => true
  | .lax _ _ _ _ => true
  | .laxg _ _ _ _ => true
  | .lao _ _ _ _ => true
  | .laog _ _ _ _ => true
  | .asi _ _ _ => true
  | .agsi _ _ _ => true
  | .alsi _ _ _ => true
  | .algsi _ _ _ => true
  | .locr _ _ _ => true
  | .locgr _ _ _ => true
  | .loc _ _ _ _ => true
  | .locg _ _ _ _ => true
  | .stoc _ _ _ _ => true
  | .stocg _ _ _ _ => true
  | .ark _ _ _ => true
  | .agrk _ _ _ => true
  | .ahik _ _ _ => true
  | .aghik _ _ _ => true
  | .alrk _ _ _ => true
  | .algrk _ _ _ => true
  | .alhsik _ _ _ => true
  | .alghsik _ _ _ => true
  | .nrk _ _ _ => true
  | .ngrk _ _ _ => true
  | .xrk _ _ _ => true
  | .xgrk _ _ _ => true
  | .ork _ _ _ => true
  | .ogrk _ _ _ => true
  | .slak _ _ _ _ => true
  | .sllk _ _ _ _ => true
  | .srak _ _ _ _ => true
  | .srlk _ _ _ _ => true
  | .srk _ _ _ => true
  | .sgrk _ _ _ => true
  | .slrk _ _ _ => true
  | .slgrk _ _ _ => true
  | .popcnt _ _ => true
  | .bcr_15_0 => true
  | .bcr_14_0 => true
  | .cxlfbr _ _ _ _ => false
  | .cdlfbr _ _ _ _ => false
  | .celfbr _ _ _ _ => false
  | .cxlgbr _ _ _ _ => false
  | .cdlgbr _ _ _ _ => false
  | .celgbr _ _ _ _ => false
  | .clfxbr _ _ _ _ => false
  | .clfdbr _ _ _ _ => false
  | .clfebr _ _ _ _ => false
  | .clgxbr _ _ _ _ => false
  | .clgdbr _ _ _ _ => false
  | .clgebr _ _ _ _ => false
  | .srnmb _ _ => false
  | .cxfbra _ _ _ _ => false
  | .cdfbra _ _ _ _ => false
  | .cefbra _ _ _ _ => false
  | .cxgbra _ _ _ _ => false
  | .cdgbra _ _ _ _ => false
  | .cegbra _ _ _ _ => false
  | .cfxbra _ _ _ _ => false
  | .cfdbra _ _ _ _ => false
  | .cfebra _ _ _ _ => false
  | .cgxbra _ _ _ _ => false
  | .cgdbra _ _ _ _ => false
  | .cgebra _ _ _ _ => false
  | .fixbra _ _ _ _ => false
  | .fidbra _ _ _ _ => false
  | .fiebra _ _ _ _ => false
  | .ldxbra _ _ _ _ => false
  | .lexbra _ _ _ _ => false
  | .ledbra _ _ _ _ => false
  | .cxftr _ _ _ _ => false
  | .cdftr _ _ _ _ => false
  | .cxlftr _ _ _ _ => false
  | .cdlftr _ _ _ _ => false
  | .cxlgtr _ _ _ _ => false
  | .cdlgtr _ _ _ _ => false
  | .cfxtr _ _ _ _ => false
  | .cfdtr _ _ _ _ => false
  | .clfxtr _ _ _ _ => false
  | .clfdtr _ _ _ _ => false
  | .clgxtr _ _ _ _ => false
  | .clgdtr _ _ _ _ => false
  | .axtra _ _ _ _ => false
  | .adtra _ _ _ _ => false
  | .cxgtra _ _ _ _ => false
  | .cdgtra _ _ _ _ => false
  | .cgxtra _ _ _ _ => false
  | .cgdtra _ _ _ _ => false
  | .dxtra _ _ _ _ => false
  | .ddtra _ _ _ _ => false
  | .mxtra _ _ _ _ => false
  | .mdtra _ _ _ _ => false
  | .sxtra _ _ _ _ => false
  | .sdtra _ _ _ _ => false
  | .pckmo _ _ => false
  | .kmf _ _ => false
  | .kmctr _ _ _ => false
  | .kmo _ _ => false
  | .pcc _ _ => false

end Sys2Proof
end

