-- ==== Sys2Proof/Decode.lean ====
section
/-! DEFINITION. From bytes to an instruction and back (30_encoding): the decoder, total on all bytes, after it the
encoder, and with both the well-formed program text. Bits are numbered from the left, as the spec numbers them (00_scope R11). -/

namespace Sys2Proof

/-! ## Bytes and fields -/

/-- The big-endian value of some bytes, the first the most significant (20_memory R62, R64). -/
def beValue : List Byte → Nat
  | [] => 0
  | b :: bs => b.toNat * 256 ^ bs.length + beValue bs

/-- The `n` bytes of a value, the most significant first (20_memory R62). -/
def bytesOf {w : Nat} (n : Nat) (v : BitVec w) : List Byte :=
  match n with
  | 0 => []
  | k + 1 => v.extractLsb' (8 * k) 8 :: bytesOf k v

/-- Bits `first` to `first + width - 1` of an instruction, bit 0 its leftmost (00_scope R11, 30_encoding R90). -/
def field {n : Nat} (w : BitVec n) (first width : Nat) : BitVec width := w.extractLsb' (n - first - width) width

/-- The register a 4-bit field designates (30_encoding R92). -/
def regAt {n : Nat} (w : BitVec n) (first : Nat) : Reg := (field w first 4).toFin

/-- The 20-bit displacement DH || DL of RXY, RSY and SIY: DL bits 20-31, DH bits 32-39 (30_encoding R106). -/
def disp20At (w : BitVec 48) : Disp20 := field w 32 8 ++ field w 20 12

/-- The instruction's length in bytes, from bits 0-1 of its first byte (30_encoding R91). -/
def instructionLength (firstByte : Byte) : Nat :=
  if firstByte.toNat < 0x40 then 2 else if firstByte.toNat < 0xC0 then 4 else 6

/-! ## The formats, read (30_encoding R93 to R103, 46_floating_point_extension R240) -/

/-- RRF with a third register (R95). -/
def rrfA (f : Reg → Reg → Reg → Instr) (w : BitVec 32) : Instr := f (regAt w 24) (regAt w 28) (regAt w 16)

/-- RRF with a mask (R95). -/
def rrfC (f : Reg → Reg → Mask → Instr) (w : BitVec 32) : Instr := f (regAt w 24) (regAt w 28) (field w 16 4)

/-- RRF with the modifiers M3 and M4 (R240). -/
def rrfE (f : Reg → Mask → Reg → Mask → Instr) (w : BitVec 32) : Instr :=
  f (regAt w 24) (field w 16 4) (regAt w 28) (field w 20 4)

/-- RRF with a third register and the modifier M4 (R240). -/
def rrfA4 (f : Reg → Reg → Reg → Mask → Instr) (w : BitVec 32) : Instr :=
  f (regAt w 24) (regAt w 28) (regAt w 16) (field w 20 4)

/-- RRE (R94). -/
def rre (f : Reg → Reg → Instr) (w : BitVec 32) : Instr := f (regAt w 24) (regAt w 28)

/-- S (R102). -/
def sFormat (f : Disp12 → Reg → Instr) (w : BitVec 32) : Instr := f (field w 20 12) (regAt w 16)

/-- RIL with an immediate (R96). -/
def rilA (f : Reg → Word → Instr) (w : BitVec 48) : Instr := f (regAt w 8) (field w 16 32)

/-- RIL with a relative immediate (R96). -/
def rilB (f : Reg → Word → Instr) (w : BitVec 48) : Instr := f (regAt w 8) (field w 16 32)

/-- SSF (R101). -/
def ssf (f : Reg → Disp12 → Reg → Disp12 → Reg → Instr) (w : BitVec 48) : Instr :=
  f (regAt w 8) (field w 20 12) (regAt w 16) (field w 36 12) (regAt w 32)

/-- RXY (R97). -/
def rxy (f : Reg → Disp20 → Reg → Reg → Instr) (w : BitVec 48) : Instr :=
  f (regAt w 8) (disp20At w) (regAt w 12) (regAt w 16)

/-- RSY with a third register (R98). -/
def rsyA (f : Reg → Reg → Disp20 → Reg → Instr) (w : BitVec 48) : Instr :=
  f (regAt w 8) (regAt w 12) (disp20At w) (regAt w 16)

/-- RSY with a mask (R98). -/
def rsyB (f : Reg → Disp20 → Reg → Mask → Instr) (w : BitVec 48) : Instr :=
  f (regAt w 8) (disp20At w) (regAt w 16) (field w 12 4)

/-- RIE with a 16-bit immediate (R99). -/
def rieD (f : Reg → Reg → Half → Instr) (w : BitVec 48) : Instr := f (regAt w 8) (regAt w 12) (field w 16 16)

/-- RIE with three 8-bit immediates (R100). -/
def rieF (f : Reg → Reg → Byte → Byte → Byte → Instr) (w : BitVec 48) : Instr :=
  f (regAt w 8) (regAt w 12) (field w 16 8) (field w 24 8) (field w 32 8)

/-- SIY (R103). -/
def siy (f : Disp20 → Reg → Byte → Instr) (w : BitVec 48) : Instr := f (disp20At w) (regAt w 16) (field w 8 8)

/-! ## The opcode map -/

/-- The four-byte rows of the opcode table (30_encoding R112, R113, 46 R243-R297, 47 R312-R318): bits 0-15 are the code, part 1. -/
def rows32Part1 : List (Nat × (BitVec 32 → Instr)) := [
  (0xB9C8, rrfA .ahhhr),
  (0xB9D8, rrfA .ahhlr),
  (0xB9CA, rrfA .alhhhr),
  (0xB9DA, rrfA .alhhlr),
  (0xB9CD, rre .chhr),
  (0xB9DD, rre .chlr),
  (0xB9CF, rre .clhhr),
  (0xB9DF, rre .clhlr),
  (0xB9C9, rrfA .shhhr),
  (0xB9D9, rrfA .shhlr),
  (0xB9CB, rrfA .slhhhr),
  (0xB9DB, rrfA .slhhlr),
  (0xB9F2, rrfC .locr),
  (0xB9E2, rrfC .locgr),
  (0xB9F8, rrfA .ark),
  (0xB9E8, rrfA .agrk),
  (0xB9FA, rrfA .alrk),
  (0xB9EA, rrfA .algrk),
  (0xB9F4, rrfA .nrk),
  (0xB9E4, rrfA .ngrk),
  (0xB9F7, rrfA .xrk),
  (0xB9E7, rrfA .xgrk),
  (0xB9F6, rrfA .ork),
  (0xB9E6, rrfA .ogrk),
  (0xB9F9, rrfA .srk),
  (0xB9E9, rrfA .sgrk),
  (0xB9FB, rrfA .slrk),
  (0xB9EB, rrfA .slgrk),
  (0xB9E1, rre .popcnt),
  (0xB392, rrfE .cxlfbr),
  (0xB391, rrfE .cdlfbr),
  (0xB390, rrfE .celfbr),
  (0xB3A2, rrfE .cxlgbr),
  (0xB3A1, rrfE .cdlgbr),
  (0xB3A0, rrfE .celgbr),
  (0xB39E, rrfE .clfxbr),
  (0xB39D, rrfE .clfdbr),
  (0xB39C, rrfE .clfebr),
  (0xB3AE, rrfE .clgxbr),
  (0xB3AD, rrfE .clgdbr)]

/-- The four-byte rows of the opcode table (30_encoding R112, R113, 46 R243-R297, 47 R312-R318): bits 0-15 are the code, part 2. -/
def rows32Part2 : List (Nat × (BitVec 32 → Instr)) := [
  (0xB3AC, rrfE .clgebr),
  (0xB2B8, sFormat .srnmb),
  (0xB396, rrfE .cxfbra),
  (0xB395, rrfE .cdfbra),
  (0xB394, rrfE .cefbra),
  (0xB3A6, rrfE .cxgbra),
  (0xB3A5, rrfE .cdgbra),
  (0xB3A4, rrfE .cegbra),
  (0xB39A, rrfE .cfxbra),
  (0xB399, rrfE .cfdbra),
  (0xB398, rrfE .cfebra),
  (0xB3AA, rrfE .cgxbra),
  (0xB3A9, rrfE .cgdbra),
  (0xB3A8, rrfE .cgebra),
  (0xB347, rrfE .fixbra),
  (0xB35F, rrfE .fidbra),
  (0xB357, rrfE .fiebra),
  (0xB345, rrfE .ldxbra),
  (0xB346, rrfE .lexbra),
  (0xB344, rrfE .ledbra),
  (0xB959, rrfE .cxftr),
  (0xB951, rrfE .cdftr),
  (0xB95B, rrfE .cxlftr),
  (0xB953, rrfE .cdlftr),
  (0xB95A, rrfE .cxlgtr),
  (0xB952, rrfE .cdlgtr),
  (0xB949, rrfE .cfxtr),
  (0xB941, rrfE .cfdtr),
  (0xB94B, rrfE .clfxtr),
  (0xB943, rrfE .clfdtr),
  (0xB94A, rrfE .clgxtr),
  (0xB942, rrfE .clgdtr),
  (0xB3DA, rrfA4 .axtra),
  (0xB3D2, rrfA4 .adtra),
  (0xB3F9, rrfE .cxgtra),
  (0xB3F1, rrfE .cdgtra),
  (0xB3E9, rrfE .cgxtra),
  (0xB3E1, rrfE .cgdtra),
  (0xB3D9, rrfA4 .dxtra),
  (0xB3D1, rrfA4 .ddtra)]

/-- The four-byte rows of the opcode table (30_encoding R112, R113, 46 R243-R297, 47 R312-R318): bits 0-15 are the code, part 3. -/
def rows32Part3 : List (Nat × (BitVec 32 → Instr)) := [
  (0xB3D8, rrfA4 .mxtra),
  (0xB3D0, rrfA4 .mdtra),
  (0xB3DB, rrfA4 .sxtra),
  (0xB3D3, rrfA4 .sdtra),
  (0xB928, rre .pckmo),
  (0xB92A, rre .kmf),
  (0xB92D, rrfA .kmctr),
  (0xB92B, rre .kmo),
  (0xB92C, rre .pcc)]

/-- The four-byte rows of the opcode table (30_encoding R112, R113, 46 R243-R297, 47 R312-R318): bits 0-15 are the code. -/
def rows32 : List (Nat × (BitVec 32 → Instr)) := rows32Part1 ++ rows32Part2 ++ rows32Part3

/-- The six-byte rows whose code is bits 0-7 and 12-15 (30_encoding R96, R101, R112). -/
def rows12 : List (Nat × (BitVec 48 → Instr)) := [
  (0xCC8, rilA .aih),
  (0xCCA, rilA .alsih),
  (0xCCB, rilA .alsihn),
  (0xCC6, rilB .brcth),
  (0xCCD, rilA .cih),
  (0xCCF, rilA .clih),
  (0xC84, ssf .lpd),
  (0xC85, ssf .lpdg)]

/-- The six-byte rows whose code is bits 0-7 and 40-47 (30_encoding R97-R100, R103, R112). -/
def rows16 : List (Nat × (BitVec 48 → Instr)) := [
  (0xE3CD, rxy .chf),
  (0xE3CF, rxy .clhf),
  (0xE3C0, rxy .lbh),
  (0xE3C4, rxy .lhh),
  (0xE3CA, rxy .lfh),
  (0xE3C2, rxy .llch),
  (0xE3C6, rxy .llhh),
  (0xEC5D, rieF .risbhg),
  (0xEC51, rieF .risblg),
  (0xE3C3, rxy .stch),
  (0xE3C7, rxy .sthh),
  (0xE3CB, rxy .stfh),
  (0xEBF8, rsyA .laa),
  (0xEBE8, rsyA .laag),
  (0xEBFA, rsyA .laal),
  (0xEBEA, rsyA .laalg),
  (0xEBF4, rsyA .lan),
  (0xEBE4, rsyA .lang),
  (0xEBF7, rsyA .lax),
  (0xEBE7, rsyA .laxg),
  (0xEBF6, rsyA .lao),
  (0xEBE6, rsyA .laog),
  (0xEB6A, siy .asi),
  (0xEB7A, siy .agsi),
  (0xEB6E, siy .alsi),
  (0xEB7E, siy .algsi),
  (0xEBF2, rsyB .loc),
  (0xEBE2, rsyB .locg),
  (0xEBF3, rsyB .stoc),
  (0xEBE3, rsyB .stocg),
  (0xECD8, rieD .ahik),
  (0xECD9, rieD .aghik),
  (0xECDA, rieD .alhsik),
  (0xECDB, rieD .alghsik),
  (0xEBDD, rsyA .slak),
  (0xEBDF, rsyA .sllk),
  (0xEBDC, rsyA .srak),
  (0xEBDE, rsyA .srlk)]

/-- The entry of a code in a table. -/
def lookup {α : Type} (code : Nat) : List (Nat × α) → Option α
  | [] => none
  | (k, a) :: rest => if code = k then some a else lookup code rest

/-! ## The decoder -/

/-- Why bytes are no instruction of the opcode table. -/
inductive Rejection where
  /-- Fewer bytes than the instruction's length (30_encoding R91). -/
  | tooShort
  /-- The operation code has no row (30_encoding R117). -/
  | unknownOperationCode
  deriving DecidableEq, Repr

/-- The two-byte rows: only BCR 15,0 and BCR 14,0 (30_encoding R93, R126). -/
def decode16 (w : BitVec 16) : Option Instr :=
  if w = 0x07F0#16 then some .bcr_15_0 else if w = 0x07E0#16 then some .bcr_14_0 else none

/-- The four-byte rows: unused fields are not examined (30_encoding R115). -/
def decode32 (w : BitVec 32) : Option Instr := (lookup (field w 0 16).toNat rows32).map (· w)

/-- The six-byte rows: where the rest of the operation code lies depends on the first byte (30_encoding R112). -/
def decode48 (w : BitVec 48) : Option Instr :=
  match lookup (field w 0 8 ++ field w 12 4).toNat rows12 with
  | some build => some (build w)
  | none => (lookup (field w 0 8 ++ field w 40 8).toNat rows16).map (· w)

/-- The instruction some bytes hold, whole, the bytes being exactly its length. -/
def decodeWhole (bs : List Byte) : Option Instr :=
  match bs with
  | [b0, b1] => decode16 (b0 ++ b1)
  | [b0, b1, b2, b3] => decode32 (b0 ++ b1 ++ b2 ++ b3)
  | [b0, b1, b2, b3, b4, b5] => decode48 (b0 ++ b1 ++ b2 ++ b3 ++ b4 ++ b5)
  | _ => none

/-- The decoder: the instruction at the head of some bytes, its length taken from the first (30_encoding R91, R112,
R127). -/
def decode (bs : List Byte) : Except Rejection Instr :=
  match bs with
  | [] => .error .tooShort
  | b :: _ =>
    if bs.length < instructionLength b then .error .tooShort
    else
      match decodeWhole (bs.take (instructionLength b)) with
      | some i => .ok i
      | none => .error .unknownOperationCode

/-- BCR with R2 = 0 and a mask of 0 to 13: no row of the table, and a two-byte no-operation (48_miscellaneous R332). -/
def isBcrNoOperation (bs : List Byte) : Bool :=
  match bs with
  | [b0, b1] => b0 == 0x07#8 && field b1 4 4 == 0#4 && decide ((field b1 0 4).toNat < 14)
  | _ => false

/-- The bytes of an instruction whose bits are `w`, its first byte the most significant of `nbits` bits, and zeros up to
the longest instruction (log 27). -/
def tableWordBytes (nbits w : Nat) : List Byte :=
  bytesOf (nbits / 8) (BitVec.ofNat nbits w) ++ List.replicate (6 - nbits / 8) 0#8

/-- The instruction the decoder reads from an instruction whose bits are `w`, numbered as the opcode table numbers them
(log 27). -/
def decodeTableWord (nbits w : Nat) : Option Instr :=
  match decode (tableWordBytes nbits w) with
  | .ok i => some i
  | .error _ => none

/-! ## The formats, written; unused fields are zeros (30_encoding R115) -/

/-- The 4-bit field of a register (30_encoding R92). -/
def regBits (r : Reg) : BitVec 4 := BitVec.ofFin r

/-- DL of a 20-bit displacement (30_encoding R106). -/
def dispLow (d : Disp20) : BitVec 12 := d.extractLsb' 0 12

/-- DH of a 20-bit displacement (30_encoding R106). -/
def dispHigh (d : Disp20) : BitVec 8 := d.extractLsb' 12 8

/-- RRF with a third register (R95). -/
def encRrfA (op : BitVec 16) (r1 r2 r3 : Reg) : BitVec 32 := op ++ regBits r3 ++ 0#4 ++ regBits r1 ++ regBits r2

/-- RRF with a mask (R95). -/
def encRrfC (op : BitVec 16) (r1 r2 : Reg) (m3 : Mask) : BitVec 32 := op ++ m3 ++ 0#4 ++ regBits r1 ++ regBits r2

/-- RRF with the modifiers M3 and M4 (R240). -/
def encRrfE (op : BitVec 16) (r1 : Reg) (m3 : Mask) (r2 : Reg) (m4 : Mask) : BitVec 32 :=
  op ++ m3 ++ m4 ++ regBits r1 ++ regBits r2

/-- RRF with a third register and the modifier M4 (R240). -/
def encRrfA4 (op : BitVec 16) (r1 r2 r3 : Reg) (m4 : Mask) : BitVec 32 :=
  op ++ regBits r3 ++ m4 ++ regBits r1 ++ regBits r2

/-- RRE (R94). -/
def encRre (op : BitVec 16) (r1 r2 : Reg) : BitVec 32 := op ++ 0#8 ++ regBits r1 ++ regBits r2

/-- S (R102). -/
def encSFormat (op : BitVec 16) (d2 : Disp12) (b2 : Reg) : BitVec 32 := op ++ regBits b2 ++ d2

/-- RIL with an immediate (R96). -/
def encRilA (op : BitVec 8) (op' : BitVec 4) (r1 : Reg) (i2 : Word) : BitVec 48 := op ++ regBits r1 ++ op' ++ i2

/-- RIL with a relative immediate (R96). -/
def encRilB (op : BitVec 8) (op' : BitVec 4) (r1 : Reg) (ri2 : Word) : BitVec 48 := op ++ regBits r1 ++ op' ++ ri2

/-- SSF (R101). -/
def encSsf (op : BitVec 8) (op' : BitVec 4) (r3 : Reg) (d1 : Disp12) (b1 : Reg) (d2 : Disp12) (b2 : Reg) : BitVec 48 :=
  op ++ regBits r3 ++ op' ++ regBits b1 ++ d1 ++ regBits b2 ++ d2

/-- RXY (R97). -/
def encRxy (op op' : BitVec 8) (r1 : Reg) (d2 : Disp20) (x2 b2 : Reg) : BitVec 48 :=
  op ++ regBits r1 ++ regBits x2 ++ regBits b2 ++ dispLow d2 ++ dispHigh d2 ++ op'

/-- RSY with a third register (R98). -/
def encRsyA (op op' : BitVec 8) (r1 r3 : Reg) (d2 : Disp20) (b2 : Reg) : BitVec 48 :=
  op ++ regBits r1 ++ regBits r3 ++ regBits b2 ++ dispLow d2 ++ dispHigh d2 ++ op'

/-- RSY with a mask (R98). -/
def encRsyB (op op' : BitVec 8) (r1 : Reg) (d2 : Disp20) (b2 : Reg) (m3 : Mask) : BitVec 48 :=
  op ++ regBits r1 ++ m3 ++ regBits b2 ++ dispLow d2 ++ dispHigh d2 ++ op'

/-- RIE with a 16-bit immediate (R99). -/
def encRieD (op op' : BitVec 8) (r1 r3 : Reg) (i2 : Half) : BitVec 48 :=
  op ++ regBits r1 ++ regBits r3 ++ i2 ++ 0#8 ++ op'

/-- RIE with three 8-bit immediates (R100). -/
def encRieF (op op' : BitVec 8) (r1 r2 : Reg) (i3 i4 i5 : Byte) : BitVec 48 :=
  op ++ regBits r1 ++ regBits r2 ++ i3 ++ i4 ++ i5 ++ op'

/-- SIY (R103). -/
def encSiy (op op' : BitVec 8) (d1 : Disp20) (b1 : Reg) (i2 : Byte) : BitVec 48 :=
  op ++ i2 ++ regBits b1 ++ dispLow d1 ++ dispHigh d1 ++ op'

/-! ## The encoder -/

/-- The bytes of an instruction (30_encoding R93 to R103, R113, R126; 46 R243-R297; 47 R312-R318). -/
def encode (i : Instr) : List Byte :=
  match i with
  | .ahhhr r1 r2 r3 => bytesOf 4 (encRrfA 0xB9C8 r1 r2 r3)
  | .ahhlr r1 r2 r3 => bytesOf 4 (encRrfA 0xB9D8 r1 r2 r3)
  | .aih r1 i2 => bytesOf 6 (encRilA 0xCC 0x8 r1 i2)
  | .alhhhr r1 r2 r3 => bytesOf 4 (encRrfA 0xB9CA r1 r2 r3)
  | .alhhlr r1 r2 r3 => bytesOf 4 (encRrfA 0xB9DA r1 r2 r3)
  | .alsih r1 i2 => bytesOf 6 (encRilA 0xCC 0xA r1 i2)
  | .alsihn r1 i2 => bytesOf 6 (encRilA 0xCC 0xB r1 i2)
  | .brcth r1 ri2 => bytesOf 6 (encRilB 0xCC 0x6 r1 ri2)
  | .chhr r1 r2 => bytesOf 4 (encRre 0xB9CD r1 r2)
  | .chlr r1 r2 => bytesOf 4 (encRre 0xB9DD r1 r2)
  | .chf r1 d2 x2 b2 => bytesOf 6 (encRxy 0xE3 0xCD r1 d2 x2 b2)
  | .cih r1 i2 => bytesOf 6 (encRilA 0xCC 0xD r1 i2)
  | .clhhr r1 r2 => bytesOf 4 (encRre 0xB9CF r1 r2)
  | .clhlr r1 r2 => bytesOf 4 (encRre 0xB9DF r1 r2)
  | .clhf r1 d2 x2 b2 => bytesOf 6 (encRxy 0xE3 0xCF r1 d2 x2 b2)
  | .clih r1 i2 => bytesOf 6 (encRilA 0xCC 0xF r1 i2)
  | .lbh r1 d2 x2 b2 => bytesOf 6 (encRxy 0xE3 0xC0 r1 d2 x2 b2)
  | .lhh r1 d2 x2 b2 => bytesOf 6 (encRxy 0xE3 0xC4 r1 d2 x2 b2)
  | .lfh r1 d2 x2 b2 => bytesOf 6 (encRxy 0xE3 0xCA r1 d2 x2 b2)
  | .llch r1 d2 x2 b2 => bytesOf 6 (encRxy 0xE3 0xC2 r1 d2 x2 b2)
  | .llhh r1 d2 x2 b2 => bytesOf 6 (encRxy 0xE3 0xC6 r1 d2 x2 b2)
  | .risbhg r1 r2 i3 i4 i5 => bytesOf 6 (encRieF 0xEC 0x5D r1 r2 i3 i4 i5)
  | .risblg r1 r2 i3 i4 i5 => bytesOf 6 (encRieF 0xEC 0x51 r1 r2 i3 i4 i5)
  | .stch r1 d2 x2 b2 => bytesOf 6 (encRxy 0xE3 0xC3 r1 d2 x2 b2)
  | .sthh r1 d2 x2 b2 => bytesOf 6 (encRxy 0xE3 0xC7 r1 d2 x2 b2)
  | .stfh r1 d2 x2 b2 => bytesOf 6 (encRxy 0xE3 0xCB r1 d2 x2 b2)
  | .shhhr r1 r2 r3 => bytesOf 4 (encRrfA 0xB9C9 r1 r2 r3)
  | .shhlr r1 r2 r3 => bytesOf 4 (encRrfA 0xB9D9 r1 r2 r3)
  | .slhhhr r1 r2 r3 => bytesOf 4 (encRrfA 0xB9CB r1 r2 r3)
  | .slhhlr r1 r2 r3 => bytesOf 4 (encRrfA 0xB9DB r1 r2 r3)
  | .laa r1 r3 d2 b2 => bytesOf 6 (encRsyA 0xEB 0xF8 r1 r3 d2 b2)
  | .laag r1 r3 d2 b2 => bytesOf 6 (encRsyA 0xEB 0xE8 r1 r3 d2 b2)
  | .laal r1 r3 d2 b2 => bytesOf 6 (encRsyA 0xEB 0xFA r1 r3 d2 b2)
  | .laalg r1 r3 d2 b2 => bytesOf 6 (encRsyA 0xEB 0xEA r1 r3 d2 b2)
  | .lan r1 r3 d2 b2 => bytesOf 6 (encRsyA 0xEB 0xF4 r1 r3 d2 b2)
  | .lang r1 r3 d2 b2 => bytesOf 6 (encRsyA 0xEB 0xE4 r1 r3 d2 b2)
  | .lax r1 r3 d2 b2 => bytesOf 6 (encRsyA 0xEB 0xF7 r1 r3 d2 b2)
  | .laxg r1 r3 d2 b2 => bytesOf 6 (encRsyA 0xEB 0xE7 r1 r3 d2 b2)
  | .lao r1 r3 d2 b2 => bytesOf 6 (encRsyA 0xEB 0xF6 r1 r3 d2 b2)
  | .laog r1 r3 d2 b2 => bytesOf 6 (encRsyA 0xEB 0xE6 r1 r3 d2 b2)
  | .lpd r3 d1 b1 d2 b2 => bytesOf 6 (encSsf 0xC8 0x4 r3 d1 b1 d2 b2)
  | .lpdg r3 d1 b1 d2 b2 => bytesOf 6 (encSsf 0xC8 0x5 r3 d1 b1 d2 b2)
  | .asi d1 b1 i2 => bytesOf 6 (encSiy 0xEB 0x6A d1 b1 i2)
  | .agsi d1 b1 i2 => bytesOf 6 (encSiy 0xEB 0x7A d1 b1 i2)
  | .alsi d1 b1 i2 => bytesOf 6 (encSiy 0xEB 0x6E d1 b1 i2)
  | .algsi d1 b1 i2 => bytesOf 6 (encSiy 0xEB 0x7E d1 b1 i2)
  | .locr r1 r2 m3 => bytesOf 4 (encRrfC 0xB9F2 r1 r2 m3)
  | .locgr r1 r2 m3 => bytesOf 4 (encRrfC 0xB9E2 r1 r2 m3)
  | .loc r1 d2 b2 m3 => bytesOf 6 (encRsyB 0xEB 0xF2 r1 d2 b2 m3)
  | .locg r1 d2 b2 m3 => bytesOf 6 (encRsyB 0xEB 0xE2 r1 d2 b2 m3)
  | .stoc r1 d2 b2 m3 => bytesOf 6 (encRsyB 0xEB 0xF3 r1 d2 b2 m3)
  | .stocg r1 d2 b2 m3 => bytesOf 6 (encRsyB 0xEB 0xE3 r1 d2 b2 m3)
  | .ark r1 r2 r3 => bytesOf 4 (encRrfA 0xB9F8 r1 r2 r3)
  | .agrk r1 r2 r3 => bytesOf 4 (encRrfA 0xB9E8 r1 r2 r3)
  | .ahik r1 r3 i2 => bytesOf 6 (encRieD 0xEC 0xD8 r1 r3 i2)
  | .aghik r1 r3 i2 => bytesOf 6 (encRieD 0xEC 0xD9 r1 r3 i2)
  | .alrk r1 r2 r3 => bytesOf 4 (encRrfA 0xB9FA r1 r2 r3)
  | .algrk r1 r2 r3 => bytesOf 4 (encRrfA 0xB9EA r1 r2 r3)
  | .alhsik r1 r3 i2 => bytesOf 6 (encRieD 0xEC 0xDA r1 r3 i2)
  | .alghsik r1 r3 i2 => bytesOf 6 (encRieD 0xEC 0xDB r1 r3 i2)
  | .nrk r1 r2 r3 => bytesOf 4 (encRrfA 0xB9F4 r1 r2 r3)
  | .ngrk r1 r2 r3 => bytesOf 4 (encRrfA 0xB9E4 r1 r2 r3)
  | .xrk r1 r2 r3 => bytesOf 4 (encRrfA 0xB9F7 r1 r2 r3)
  | .xgrk r1 r2 r3 => bytesOf 4 (encRrfA 0xB9E7 r1 r2 r3)
  | .ork r1 r2 r3 => bytesOf 4 (encRrfA 0xB9F6 r1 r2 r3)
  | .ogrk r1 r2 r3 => bytesOf 4 (encRrfA 0xB9E6 r1 r2 r3)
  | .slak r1 r3 d2 b2 => bytesOf 6 (encRsyA 0xEB 0xDD r1 r3 d2 b2)
  | .sllk r1 r3 d2 b2 => bytesOf 6 (encRsyA 0xEB 0xDF r1 r3 d2 b2)
  | .srak r1 r3 d2 b2 => bytesOf 6 (encRsyA 0xEB 0xDC r1 r3 d2 b2)
  | .srlk r1 r3 d2 b2 => bytesOf 6 (encRsyA 0xEB 0xDE r1 r3 d2 b2)
  | .srk r1 r2 r3 => bytesOf 4 (encRrfA 0xB9F9 r1 r2 r3)
  | .sgrk r1 r2 r3 => bytesOf 4 (encRrfA 0xB9E9 r1 r2 r3)
  | .slrk r1 r2 r3 => bytesOf 4 (encRrfA 0xB9FB r1 r2 r3)
  | .slgrk r1 r2 r3 => bytesOf 4 (encRrfA 0xB9EB r1 r2 r3)
  | .popcnt r1 r2 => bytesOf 4 (encRre 0xB9E1 r1 r2)
  | .bcr_15_0 => bytesOf 2 (0x07F0#16)
  | .bcr_14_0 => bytesOf 2 (0x07E0#16)
  | .cxlfbr r1 m3 r2 m4 => bytesOf 4 (encRrfE 0xB392 r1 m3 r2 m4)
  | .cdlfbr r1 m3 r2 m4 => bytesOf 4 (encRrfE 0xB391 r1 m3 r2 m4)
  | .celfbr r1 m3 r2 m4 => bytesOf 4 (encRrfE 0xB390 r1 m3 r2 m4)
  | .cxlgbr r1 m3 r2 m4 => bytesOf 4 (encRrfE 0xB3A2 r1 m3 r2 m4)
  | .cdlgbr r1 m3 r2 m4 => bytesOf 4 (encRrfE 0xB3A1 r1 m3 r2 m4)
  | .celgbr r1 m3 r2 m4 => bytesOf 4 (encRrfE 0xB3A0 r1 m3 r2 m4)
  | .clfxbr r1 m3 r2 m4 => bytesOf 4 (encRrfE 0xB39E r1 m3 r2 m4)
  | .clfdbr r1 m3 r2 m4 => bytesOf 4 (encRrfE 0xB39D r1 m3 r2 m4)
  | .clfebr r1 m3 r2 m4 => bytesOf 4 (encRrfE 0xB39C r1 m3 r2 m4)
  | .clgxbr r1 m3 r2 m4 => bytesOf 4 (encRrfE 0xB3AE r1 m3 r2 m4)
  | .clgdbr r1 m3 r2 m4 => bytesOf 4 (encRrfE 0xB3AD r1 m3 r2 m4)
  | .clgebr r1 m3 r2 m4 => bytesOf 4 (encRrfE 0xB3AC r1 m3 r2 m4)
  | .srnmb d2 b2 => bytesOf 4 (encSFormat 0xB2B8 d2 b2)
  | .cxfbra r1 m3 r2 m4 => bytesOf 4 (encRrfE 0xB396 r1 m3 r2 m4)
  | .cdfbra r1 m3 r2 m4 => bytesOf 4 (encRrfE 0xB395 r1 m3 r2 m4)
  | .cefbra r1 m3 r2 m4 => bytesOf 4 (encRrfE 0xB394 r1 m3 r2 m4)
  | .cxgbra r1 m3 r2 m4 => bytesOf 4 (encRrfE 0xB3A6 r1 m3 r2 m4)
  | .cdgbra r1 m3 r2 m4 => bytesOf 4 (encRrfE 0xB3A5 r1 m3 r2 m4)
  | .cegbra r1 m3 r2 m4 => bytesOf 4 (encRrfE 0xB3A4 r1 m3 r2 m4)
  | .cfxbra r1 m3 r2 m4 => bytesOf 4 (encRrfE 0xB39A r1 m3 r2 m4)
  | .cfdbra r1 m3 r2 m4 => bytesOf 4 (encRrfE 0xB399 r1 m3 r2 m4)
  | .cfebra r1 m3 r2 m4 => bytesOf 4 (encRrfE 0xB398 r1 m3 r2 m4)
  | .cgxbra r1 m3 r2 m4 => bytesOf 4 (encRrfE 0xB3AA r1 m3 r2 m4)
  | .cgdbra r1 m3 r2 m4 => bytesOf 4 (encRrfE 0xB3A9 r1 m3 r2 m4)
  | .cgebra r1 m3 r2 m4 => bytesOf 4 (encRrfE 0xB3A8 r1 m3 r2 m4)
  | .fixbra r1 m3 r2 m4 => bytesOf 4 (encRrfE 0xB347 r1 m3 r2 m4)
  | .fidbra r1 m3 r2 m4 => bytesOf 4 (encRrfE 0xB35F r1 m3 r2 m4)
  | .fiebra r1 m3 r2 m4 => bytesOf 4 (encRrfE 0xB357 r1 m3 r2 m4)
  | .ldxbra r1 m3 r2 m4 => bytesOf 4 (encRrfE 0xB345 r1 m3 r2 m4)
  | .lexbra r1 m3 r2 m4 => bytesOf 4 (encRrfE 0xB346 r1 m3 r2 m4)
  | .ledbra r1 m3 r2 m4 => bytesOf 4 (encRrfE 0xB344 r1 m3 r2 m4)
  | .cxftr r1 m3 r2 m4 => bytesOf 4 (encRrfE 0xB959 r1 m3 r2 m4)
  | .cdftr r1 m3 r2 m4 => bytesOf 4 (encRrfE 0xB951 r1 m3 r2 m4)
  | .cxlftr r1 m3 r2 m4 => bytesOf 4 (encRrfE 0xB95B r1 m3 r2 m4)
  | .cdlftr r1 m3 r2 m4 => bytesOf 4 (encRrfE 0xB953 r1 m3 r2 m4)
  | .cxlgtr r1 m3 r2 m4 => bytesOf 4 (encRrfE 0xB95A r1 m3 r2 m4)
  | .cdlgtr r1 m3 r2 m4 => bytesOf 4 (encRrfE 0xB952 r1 m3 r2 m4)
  | .cfxtr r1 m3 r2 m4 => bytesOf 4 (encRrfE 0xB949 r1 m3 r2 m4)
  | .cfdtr r1 m3 r2 m4 => bytesOf 4 (encRrfE 0xB941 r1 m3 r2 m4)
  | .clfxtr r1 m3 r2 m4 => bytesOf 4 (encRrfE 0xB94B r1 m3 r2 m4)
  | .clfdtr r1 m3 r2 m4 => bytesOf 4 (encRrfE 0xB943 r1 m3 r2 m4)
  | .clgxtr r1 m3 r2 m4 => bytesOf 4 (encRrfE 0xB94A r1 m3 r2 m4)
  | .clgdtr r1 m3 r2 m4 => bytesOf 4 (encRrfE 0xB942 r1 m3 r2 m4)
  | .axtra r1 r2 r3 m4 => bytesOf 4 (encRrfA4 0xB3DA r1 r2 r3 m4)
  | .adtra r1 r2 r3 m4 => bytesOf 4 (encRrfA4 0xB3D2 r1 r2 r3 m4)
  | .cxgtra r1 m3 r2 m4 => bytesOf 4 (encRrfE 0xB3F9 r1 m3 r2 m4)
  | .cdgtra r1 m3 r2 m4 => bytesOf 4 (encRrfE 0xB3F1 r1 m3 r2 m4)
  | .cgxtra r1 m3 r2 m4 => bytesOf 4 (encRrfE 0xB3E9 r1 m3 r2 m4)
  | .cgdtra r1 m3 r2 m4 => bytesOf 4 (encRrfE 0xB3E1 r1 m3 r2 m4)
  | .dxtra r1 r2 r3 m4 => bytesOf 4 (encRrfA4 0xB3D9 r1 r2 r3 m4)
  | .ddtra r1 r2 r3 m4 => bytesOf 4 (encRrfA4 0xB3D1 r1 r2 r3 m4)
  | .mxtra r1 r2 r3 m4 => bytesOf 4 (encRrfA4 0xB3D8 r1 r2 r3 m4)
  | .mdtra r1 r2 r3 m4 => bytesOf 4 (encRrfA4 0xB3D0 r1 r2 r3 m4)
  | .sxtra r1 r2 r3 m4 => bytesOf 4 (encRrfA4 0xB3DB r1 r2 r3 m4)
  | .sdtra r1 r2 r3 m4 => bytesOf 4 (encRrfA4 0xB3D3 r1 r2 r3 m4)
  | .pckmo r1 r2 => bytesOf 4 (encRre 0xB928 r1 r2)
  | .kmf r1 r2 => bytesOf 4 (encRre 0xB92A r1 r2)
  | .kmctr r1 r2 r3 => bytesOf 4 (encRrfA 0xB92D r1 r2 r3)
  | .kmo r1 r2 => bytesOf 4 (encRre 0xB92B r1 r2)
  | .pcc r1 r2 => bytesOf 4 (encRre 0xB92C r1 r2)

/-! ## Well-formed program text -/

/-- Whether bytes are the text of one well-formed instruction (30_encoding R127): a row of the opcode table that is well
formed, with zeros in the unused fields (R115), for there the encoder writes zeros. -/
def wellFormedText (bs : List Byte) : Bool :=
  match decode bs with
  | .ok i => i.wellFormed && encode i == bs
  | .error _ => false

end Sys2Proof
end

