-- ==== Sys2Proof/Machine/State.lean ====
section
/-! DEFINITION. The state of the machine as plain data: every CPU with its registers and PSW (10_state R44), the storage
they share, what the configuration holds, and the two fields of the model's own that say what happens next (schedule)
and which draw comes next (draws). With it the faults, the refusals and the state after reset. -/

namespace Sys2Proof.Machine

/-- The addressing mode: 24, 31 or 64 bits (10_state R26, 00_scope R10). -/
inductive AMode where
  /-- 24-bit addressing. -/
  | mode24
  /-- 31-bit addressing. -/
  | mode31
  /-- 64-bit addressing. -/
  | mode64
  deriving DecidableEq, Repr

/-- The program exceptions (60_exceptions R351). The model raises operation, specification, addressing and fixed-point
overflow; privileged operation, protection, data and monitor event are raised by no modelled instruction (R353, R356,
R358, R359). -/
inductive ProgramException where
  /-- Operation exception (R354). -/
  | operation
  /-- Privileged-operation exception (R353). -/
  | privilegedOperation
  /-- Protection exception (R356). -/
  | protection
  /-- Addressing exception (R356). -/
  | addressing
  /-- Specification exception (R355). -/
  | specification
  /-- Data exception (R359). -/
  | data
  /-- Fixed-point-overflow exception (R352). -/
  | fixedPointOverflow
  /-- Monitor event (R358). -/
  | monitorEvent
  deriving DecidableEq, Repr

/-- What the fault state of a CPU records (60_exceptions R350): the exception, its interruption code (R351), the address
IA of the instruction and its length ILEN, which its first byte gives (30_encoding R91), and which is none when not even
that byte was fetched (log 9). -/
structure FaultRecord where
  exception : ProgramException
  code : BitVec 16
  ia : Dword
  ilen : Option Nat
  deriving DecidableEq, Repr

/-- Whether a CPU runs (60_exceptions R350, R370; 70_reset_and_hazards R383). -/
inductive CpuStatus where
  /-- It executes instructions. -/
  | operating
  /-- It has reached an end address (70_reset_and_hazards R383). -/
  | finished
  /-- A program interruption has ended its run (60_exceptions R350). -/
  | faulted (record : FaultRecord)
  deriving DecidableEq, Repr

/-- The program-status word (10_state R25, R26). The rules read cc, pc, fpoMask, amode and problemState; the other
fields are those of R25 that play no part in any rule. -/
structure Psw where
  /-- PER mask (bit 1). -/
  perMask : Bool
  /-- DAT mode (bit 5). -/
  datMode : Bool
  /-- I/O mask (bit 6). -/
  ioMask : Bool
  /-- External mask (bit 7). -/
  externalMask : Bool
  /-- Key (bits 8-11). -/
  key : BitVec 4
  /-- Machine-check mask (bit 13). -/
  machineCheckMask : Bool
  /-- Wait state (bit 14). -/
  wait : Bool
  /-- PROBLEM_STATE (bit 15): the CPU is unprivileged (60_exceptions R364). -/
  problemState : Bool
  /-- Address-space control (bits 16-17). -/
  asc : BitVec 2
  /-- CC, the condition code (bits 18-19; R28). -/
  cc : CondCode
  /-- FPO_MASK, the fixed-point-overflow mask (bit 20; 60_exceptions R352). -/
  fpoMask : Bool
  /-- Decimal-overflow mask (bit 21). -/
  decimalOverflowMask : Bool
  /-- HFP-exponent-underflow mask (bit 22). -/
  hfpUnderflowMask : Bool
  /-- HFP-significance mask (bit 23). -/
  hfpSignificanceMask : Bool
  /-- AMODE, the addressing mode (bits 31-32; R26). -/
  amode : AMode
  /-- The instruction address (bits 64-127; R27). -/
  pc : Dword
  deriving DecidableEq, Repr

/-- Some consecutive addresses: from `first`, `size` of them. -/
structure Region where
  first : Nat
  size : Nat
  deriving DecidableEq, Repr

/-- A store a CPU has made and other agents do not see yet (20_memory R73), in the pieces in which they will see it: one
piece for a block-concurrent store, one for each byte otherwise (R67). -/
structure BufferedStore where
  units : List (List Host.Cell)
  deriving DecidableEq, Repr

/-- Consecutive operand bytes a CPU has fetched, all at one instant, for the instruction it is about to execute
(20_memory R67, R69, R70; log 13). -/
structure EarlyFetch where
  address : Nat
  bytes : List Byte
  deriving DecidableEq, Repr

/-- One CPU (10_state R44). -/
structure Cpu where
  /-- The general registers (R20). -/
  gr : Vector Dword 16
  /-- The program-status word (R24). -/
  psw : Psw
  /-- The control registers (R37). -/
  cr : Vector Dword 16
  /-- The floating-point control register (R38). -/
  fpcr : Word
  /-- The floating-point registers (R41). -/
  fpr : Vector Dword 16
  /-- The access registers (R41). -/
  ar : Vector Word 16
  /-- The prefix register (20_memory R61). -/
  prefixReg : Dword
  /-- The translation-lookaside buffer: the addresses of the page-table entries it holds (R43). -/
  tlb : List Nat
  /-- Whether the CPU runs. -/
  status : CpuStatus
  /-- The program text: the bytes that hold its instructions (70_reset_and_hazards R381). -/
  text : List Region
  /-- The end addresses (70_reset_and_hazards R383). -/
  endAddresses : List Dword
  /-- The store buffer, oldest store first (20_memory R73). -/
  buffer : List BufferedStore
  /-- THE MODEL'S OWN: what it has fetched early, the latest first (log 13). -/
  early : List EarlyFetch
  deriving DecidableEq, Repr

/-- The wrapping-key registers of the message-security assist (10_state R40, 47_message_security_assist R311). -/
structure WrappingKeys where
  aesKey : BitVec 256
  aesPattern : BitVec 256
  deaKey : BitVec 192
  deaPattern : BitVec 192
  deriving DecidableEq, Repr

/-- What an agent does next (20_memory R67, R69, R70, R73; 60_exceptions R368; log 12). -/
inductive Move where
  /-- The active CPU executes one instruction; its stores stay in its buffer. -/
  | execute
  /-- The piece with this number of the active CPU's oldest buffered store becomes visible to all agents. -/
  | drain (piece : Nat)
  /-- The active CPU fetches bytes of an operand of its next instruction. -/
  | fetchEarly (address length : Nat)
  /-- The CPU with this number among the others becomes the active one. -/
  | switchTo (number : Nat)
  /-- The channel subsystem stores bytes (60_exceptions R368). -/
  | channelStore (address : Nat) (bytes : List Byte)
  deriving DecidableEq, Repr

/-- The configuration: its CPUs, the storage they share and the rest of its state (10_state R44). -/
structure State where
  /-- The active CPU: the one the next move is about. -/
  cpu : Cpu
  /-- The other CPUs; NCPU is one more than their number (60_exceptions R367). -/
  others : List Cpu
  /-- Storage: the bytes that are not zero, by rising address (10_state R42, 20_memory R60; log 4). -/
  storage : List Host.Cell
  /-- STORAGE: the addresses that exist (20_memory R61). -/
  regions : List Region
  /-- The storage key of each block, by block number (10_state R43). DESIGN CHOICE (log 3): a block that is not listed has
  the key zero. -/
  storageKeys : List (Nat × BitVec 7)
  /-- The blocks of real storage whose reference bit is one (10_state R43); a block that is not listed has the bit
  zero. -/
  referenceBits : List Nat
  /-- FACILITY: the facility bits that are one (10_state R39). -/
  facilities : List Nat
  /-- The wrapping-key registers (10_state R40). -/
  wrappingKeys : WrappingKeys
  /-- CHANNEL: the buffer regions of the channel subsystem, where there is one (60_exceptions R368). -/
  channel : Option (List Region)
  /-- THE MODEL'S OWN: the moves still to come, an input; when there are none the active CPU executes one instruction
  after another and each of its stores becomes visible at once (log 12). -/
  schedule : List Move
  /-- THE MODEL'S OWN: how many draws have been made (00_scope R12; log 10, log 11). -/
  draws : Nat
  deriving DecidableEq, Repr

/-- Why the machine stops. -/
inductive Fault where
  /-- Every CPU is finished or faulted (70_reset_and_hazards R383): the run is over. Raised by a step of the whole
  machine only; safe, for nothing more can happen. -/
  | runOver
  deriving DecidableEq, Repr

/-- What the model refuses. -/
inductive Refusal where
  /-- An instruction whose meaning is not written; raised by its arm of exec. Safe. -/
  | notModelled (mnemonic : String)
  /-- A floating-point-extension instruction, which the source names and does not define
  (46_floating_point_extension R241); raised by its meaning. Safe. -/
  | floatingPointUndefined (mnemonic : String)
  /-- A message-security-assist instruction, which the source names and does not define
  (47_message_security_assist R320); raised by its meaning. Safe. -/
  | cryptographicUndefined (mnemonic : String)
  /-- An operation code without a row (30_encoding R117); raised by a step. Safe. -/
  | unknownOperationCode
  /-- A store that overlaps program text (20_memory R77); raised by every storing meaning and by a store of the channel
  subsystem. Safe. -/
  | storeIntoProgramText
  /-- A move the schedule asks for and no agent can make (log 12); raised by a step. Safe. -/
  | inadmissibleMove
  deriving DecidableEq, Repr

/-- The PSW after reset: all zero (log 1, log 2). -/
def Psw.reset : Psw :=
  { perMask := false, datMode := false, ioMask := false, externalMask := false, key := 0#4, machineCheckMask := false,
    wait := false, problemState := false, asc := 0#2, cc := 0#2, fpoMask := false, decimalOverflowMask := false,
    hfpUnderflowMask := false, hfpSignificanceMask := false, amode := .mode24, pc := 0#64 }

/-- The control registers after reset (70_reset_and_hazards R380, the family's values; log 2). -/
def Cpu.resetControlRegisters : Vector Dword 16 :=
  ((Vector.replicate 16 0#64).set 0 0xE0#64).set 14 0xC2000000#64

/-- A CPU after reset (70_reset_and_hazards R380; log 1, log 2, log 3, log 7). -/
def Cpu.reset : Cpu :=
  { gr := Vector.replicate 16 0#64, psw := Psw.reset, cr := Cpu.resetControlRegisters, fpcr := 0#32,
    fpr := Vector.replicate 16 0#64, ar := Vector.replicate 16 0#32, prefixReg := 0#64, tlb := [],
    status := .operating, text := [], endAddresses := [], buffer := [], early := [] }

/-- The machine after reset: the source gives no value (10_state R45), so each is a log entry's, but for the facility
bits, which 00_scope R10 gives. No storage key is listed, so every block has the key zero (DESIGN CHOICE, log 3). -/
def State.reset : State :=
  { cpu := Cpu.reset, others := [], storage := [], regions := [⟨0, 2 ^ 64⟩], storageKeys := [], referenceBits := [],
    facilities := [13, 14, 36, 45, 47, 66, 76, 77],
    wrappingKeys := { aesKey := 0#256, aesPattern := 0#256, deaKey := 0#192, deaPattern := 0#192 },
    channel := none, schedule := [], draws := 0 }

end Sys2Proof.Machine
end

