-- ==== Sys2Proof/Machine/Ops.lean ====
section
/-! DEFINITION. The named operations over registers, storage, the store buffer and exceptions, which every meaning is
written with. -/

namespace Sys2Proof.Machine

/-- What a meaning answers. -/
abbrev Result := Host.Outcome State Fault Refusal

/-! ## General registers (10_state R20, R21) -/

/-- GR[r]. -/
def State.gr (s : State) (r : Reg) : Dword := s.cpu.gr[r.val]

/-- The high word of a doubleword: bits 0-31. -/
def highWord (v : Dword) : Word := v.extractLsb' 32 32

/-- The low word of a doubleword: bits 32-63. -/
def lowWord (v : Dword) : Word := v.extractLsb' 0 32

/-- The doubleword of a high and a low word. -/
def joinWords (high low : Word) : Dword := high ++ low

/-- GRH[r]. -/
def State.grh (s : State) (r : Reg) : Word := highWord (s.gr r)

/-- GRL[r]. -/
def State.grl (s : State) (r : Reg) : Word := lowWord (s.gr r)

/-- GR[r] <- v. -/
def State.setGr (s : State) (r : Reg) (v : Dword) : State :=
  { s with cpu := { s.cpu with gr := s.cpu.gr.set r.val v } }

/-- GRH[r] <- v: bits 32-63 keep their value. -/
def State.setGrh (s : State) (r : Reg) (v : Word) : State := s.setGr r (joinWords v (s.grl r))

/-- GRL[r] <- v: bits 0-31 keep their value. -/
def State.setGrl (s : State) (r : Reg) (v : Word) : State := s.setGr r (joinWords (s.grh r) v)

/-! ## The program-status word (10_state R26) -/

/-- CC <- c. -/
def State.setCc (s : State) (c : CondCode) : State :=
  { s with cpu := { s.cpu with psw := { s.cpu.psw with cc := c } } }

/-- wrap(a) by the addressing mode (30_encoding R108). -/
def AMode.wrap (m : AMode) (a : Dword) : Dword :=
  match m with
  | .mode24 => a &&& 0xFFFFFF#64
  | .mode31 => a &&& 0x7FFFFFFF#64
  | .mode64 => a

/-- The instruction ends and pc becomes `target` (00_scope R13); what it fetched early is used up (log 13). -/
def State.jump (s : State) (target : Dword) : State :=
  { s with cpu := { s.cpu with psw := { s.cpu.psw with pc := target }, early := [] } }

/-- pc <- IA + ILEN, wrapped (10_state R27, 30_encoding R108). -/
def State.advance (s : State) (ilen : Nat) : State :=
  s.jump (s.cpu.psw.amode.wrap (s.cpu.psw.pc + BitVec.ofNat 64 ilen))

/-! ## Storage (20_memory R60) -/

/-- What a byte of storage that nothing lists reads as (log 4). -/
def Memory.unlisted : Byte := 0#8

/-- One byte of storage. -/
def Memory.read (m : List Host.Cell) (a : Nat) : Byte :=
  match m with
  | [] => Memory.unlisted
  | (k, b) :: rest => if k = a then b else Memory.read rest a

/-- The canonical form: addresses strictly rising, and no entry equal to what an unlisted byte reads as. -/
abbrev Memory.wf (m : List Host.Cell) : Prop :=
  m.Pairwise (fun x y => x.1 < y.1) ∧ ∀ c ∈ m, c.2 ≠ Memory.unlisted

/-- An entry in front of a list whose addresses are greater, unless it reads as an unlisted byte does. -/
def Memory.cons (a : Nat) (v : Byte) (m : List Host.Cell) : List Host.Cell :=
  if v = Memory.unlisted then m else (a, v) :: m

/-- Storage with one byte written. -/
def Memory.write (m : List Host.Cell) (a : Nat) (v : Byte) : List Host.Cell :=
  match m with
  | [] => Memory.cons a v []
  | (k, b) :: rest =>
    if a < k then Memory.cons a v ((k, b) :: rest)
    else if a = k then Memory.cons a v rest
    else (k, b) :: Memory.write rest a v

/-- Storage with some bytes written, in order. -/
def Memory.writeCells (m : List Host.Cell) (cells : List Host.Cell) : List Host.Cell :=
  cells.foldl (fun m c => Memory.write m c.1 c.2) m

/-- Whether an address lies in a region. -/
def Region.has (r : Region) (a : Nat) : Bool := decide (r.first ≤ a ∧ a < r.first + r.size)

/-- Whether every one of some addresses is in STORAGE (20_memory R61, 60_exceptions R356). -/
def State.present (s : State) (as : List Nat) : Bool :=
  as.all fun a => decide (a < 2 ^ 64) && s.regions.any (·.has a)

/-- Whether an address holds program text of a CPU (70_reset_and_hazards R381). -/
def Cpu.hasText (c : Cpu) (a : Nat) : Bool := c.text.any (·.has a)

/-- Whether an address holds program text of any CPU (20_memory R77). -/
def State.hasText (s : State) (a : Nat) : Bool := (s.cpu :: s.others).any (·.hasText a)

/-- The byte addresses of an operand of `n` bytes, each wrapped (30_encoding R108). -/
def operandAddresses (m : AMode) (a : Dword) (n : Nat) : List Nat :=
  (List.range n).map fun i => (m.wrap (a + BitVec.ofNat 64 i)).toNat

/-- The byte addresses of an operand of `n` bytes of the active CPU. -/
def State.operand (s : State) (a : Dword) (n : Nat) : List Nat := operandAddresses s.cpu.psw.amode a n

/-- Whether an operand of `n` bytes is on its integral boundary (00_scope R15, 20_memory R65). -/
def aligned (a : Dword) (n : Nat) : Bool := decide (a.toNat % n = 0)

/-! ## The store buffer (20_memory R67, R73) -/

/-- The byte a buffered store has for an address. -/
def BufferedStore.byte (st : BufferedStore) (a : Nat) : Option Byte := st.units.findSome? (List.lookup a)

/-- The byte the newest buffered store to an address has for it. -/
def bufferedByte (buffer : List BufferedStore) (a : Nat) : Option Byte :=
  match buffer with
  | [] => none
  | st :: rest => (bufferedByte rest a).or (st.byte a)

/-- The byte the active CPU sees at an address: its own latest store to it, else storage (20_memory R73(1)). -/
def State.view (s : State) (a : Nat) : Byte := (bufferedByte s.cpu.buffer a).getD (Memory.read s.storage a)

/-- A store in the pieces others see: one when it is on its integral boundary, else its bytes (20_memory R67). -/
def pieces (a : Dword) (cells : List Host.Cell) : List (List Host.Cell) :=
  if aligned a cells.length then [cells] else cells.map fun c => [c]

/-- The active CPU stores some bytes: they enter its buffer (20_memory R73(3)). -/
def State.bufferStore (s : State) (a : Dword) (bytes : List Byte) : State :=
  { s with cpu :=
    { s.cpu with buffer := s.cpu.buffer ++ [⟨pieces a ((s.operand a bytes.length).zip bytes)⟩] } }

/-- Storage once a buffered store has become visible. -/
def Memory.writeStore (m : List Host.Cell) (st : BufferedStore) : List Host.Cell :=
  st.units.foldl Memory.writeCells m

/-- All stores of the active CPU become visible, in order (20_memory R74: serialization; R75). -/
def State.drainAll (s : State) : State :=
  { s with storage := s.cpu.buffer.foldl Memory.writeStore s.storage, cpu := { s.cpu with buffer := [] } }

/-- Bytes written to storage at once, where every agent sees them. -/
def State.writeStorage (s : State) (a : Dword) (bytes : List Byte) : State :=
  { s with storage := Memory.writeCells s.storage ((s.operand a bytes.length).zip bytes) }

/-! ## Operand fetches (20_memory R67, R69, R70) -/

/-- Operand bytes as the active CPU sees them now, all at one instant. -/
def State.fetchNow (s : State) (as : List Nat) : List Byte := as.map s.view

/-- `n` bytes fetched early at an address, if they were (log 13). -/
def earlyBytes (es : List EarlyFetch) (a n : Nat) : Option (List Byte) :=
  (es.find? fun e => decide (e.address = a ∧ e.bytes.length = n)).map (·.bytes)

/-- A byte that may have been fetched early. -/
def State.earlyByte (s : State) (a : Nat) : Byte :=
  match earlyBytes s.cpu.early a 1 with
  | some [b] => b
  | _ => s.view a

/-- A block-concurrent fetch that may have been made early. -/
def State.fetchBlock (s : State) (a : Dword) (n : Nat) : List Byte :=
  (earlyBytes s.cpu.early a.toNat n).getD (s.fetchNow (s.operand a n))

/-- The fetch of an ordinary operand: at one instant when it is on its integral boundary, else byte by byte
(20_memory R67). -/
def State.fetchOperand (s : State) (a : Dword) (n : Nat) : List Byte :=
  if aligned a n then s.fetchNow (s.operand a n) else (s.operand a n).map s.earlyByte

/-- The fetch of an update that is not interlocked: other agents may store between it and the store
(20_memory R69). -/
def State.fetchForUpdate (s : State) (a : Dword) (n : Nat) : List Byte :=
  if aligned a n then s.fetchBlock a n else (s.operand a n).map s.earlyByte

/-! ## Taking an exception (60_exceptions R350, R361)

There is no return from one: the fault state is terminal (R362). -/

/-- The program-interruption codes (60_exceptions R351). -/
def ProgramException.code (e : ProgramException) : BitVec 16 :=
  match e with
  | .operation => 0x0001#16
  | .privilegedOperation => 0x0002#16
  | .protection => 0x0004#16
  | .addressing => 0x0005#16
  | .specification => 0x0006#16
  | .data => 0x0007#16
  | .fixedPointOverflow => 0x0008#16
  | .monitorEvent => 0x0040#16

/-- A program interruption: the CPU enters its fault state, which records the exception, its code, IA and ILEN; nothing
else changes (60_exceptions R350; log 8). -/
def State.takeException (s : State) (e : ProgramException) (ia : Dword) (ilen : Option Nat) : State :=
  { s with cpu := { s.cpu with status := .faulted { exception := e, code := e.code, ia := ia, ilen := ilen } } }

/-- A suppressing exception: the state is as before the instruction (60_exceptions R361). -/
def suppress (e : ProgramException) (ilen : Nat) (s : State) : Result :=
  .next (s.takeException e s.cpu.psw.pc (some ilen))

/-- The end of an instruction: on an overflow with FPO_MASK one, a fixed-point-overflow interruption after the results
`t` (60_exceptions R352; a completing exception, R361). -/
def complete (ilen : Nat) (overflow : Bool) (s t : State) : Result :=
  if overflow && s.cpu.psw.fpoMask then .next (t.takeException .fixedPointOverflow s.cpu.psw.pc (some ilen))
  else .next t

/-! ## Checks, in the order of 60_exceptions R360 -/

/-- Operation exception when facility bit 45 is zero (60_exceptions R354). -/
def requireFacility (ilen : Nat) (s : State) (k : Result) : Result :=
  if s.facilities.contains 45 then k else suppress .operation ilen s

/-- Specification exception unless `ok` (60_exceptions R355). -/
def requireDesignation (ok : Bool) (ilen : Nat) (s : State) (k : Result) : Result :=
  if ok then k else suppress .specification ilen s

/-- Addressing exception unless every byte is in STORAGE (60_exceptions R356). -/
def requirePresent (as : List Nat) (ilen : Nat) (s : State) (k : Result) : Result :=
  if s.present as then k else suppress .addressing ilen s

/-- A store that overlaps program text is refused (20_memory R77; log 16). -/
def requireNoText (as : List Nat) (s : State) (k : Result) : Result :=
  if as.any s.hasText then .refused .storeIntoProgramText else k

/-! ## Accesses of an instruction -/

/-- An ordinary operand fetch; `k` receives its value, big-endian (20_memory R62). -/
def withFetch (a : Dword) (n ilen : Nat) (s : State) (k : Nat → Result) : Result :=
  requirePresent (s.operand a n) ilen s (k (beValue (s.fetchOperand a n)))

/-- An ordinary store; `k` receives the state with the store in the buffer. -/
def withStore {w : Nat} (a : Dword) (n : Nat) (v : BitVec w) (ilen : Nat) (s : State) (k : State → Result) : Result :=
  requirePresent (s.operand a n) ilen s <|
  requireNoText (s.operand a n) s <|
  k (s.bufferStore a (bytesOf n v))

/-- An interlocked update (20_memory R68): the CPU's own stores become visible first (R75), then `k` receives the state
and the old value, and writes storage directly. -/
def withInterlocked (a : Dword) (n ilen : Nat) (s : State) (k : State → Nat → Result) : Result :=
  requirePresent (s.operand a n) ilen s <|
  requireNoText (s.operand a n) s <|
  k s.drainAll (beValue ((s.operand a n).map (Memory.read s.drainAll.storage)))

/-- An update that is not interlocked (20_memory R69): `k` receives the value fetched. -/
def withUpdate (a : Dword) (n ilen : Nat) (s : State) (k : Nat → Result) : Result :=
  requirePresent (s.operand a n) ilen s <|
  requireNoText (s.operand a n) s <|
  k (beValue (s.fetchForUpdate a n))

/-- A conditional storage instruction whose condition is false (43_load_store_on_condition R199): a draw decides whether
the operand is tested for access (log 11). -/
def conditionFalse (a : Dword) (n ilen : Nat) (s : State) : Result :=
  let t : State := { s with draws := s.draws + 1 }
  if !s.present (s.operand a n) && Config.falseConditionTests s.draws then suppress .addressing ilen t
  else .next (t.advance ilen)

end Sys2Proof.Machine
end

