-- ==== Sys2Proof/Machine/Operands.lean ====
section
/-! DEFINITION. The operand forms: storage addresses, immediates, shift amounts and the condition mask. -/

namespace Sys2Proof.Machine

/-- The component of a base or index field: zero means no register (30_encoding R104). -/
def State.component (s : State) (b : Reg) : Dword := if b = 0 then 0#64 else s.gr b

/-- The second-operand address of RXY (30_encoding R105). -/
def State.addressRxy (s : State) (d2 : Disp20) (x2 b2 : Reg) : Dword :=
  s.cpu.psw.amode.wrap (s.component x2 + s.component b2 + d2.signExtend 64)

/-- The storage address of RSY and SIY (30_encoding R105). -/
def State.addressRsy (s : State) (d : Disp20) (b : Reg) : Dword :=
  s.cpu.psw.amode.wrap (s.component b + d.signExtend 64)

/-- A storage address of SSF: an unsigned 12-bit displacement (30_encoding R105, R107). -/
def State.addressSsf (s : State) (d : Disp12) (b : Reg) : Dword :=
  s.cpu.psw.amode.wrap (s.component b + d.setWidth 64)

/-- The shift amount: the rightmost six bits of the second-operand address (30_encoding R109, 44_distinct_operands
R223). -/
def State.shiftAmount (s : State) (d2 : Disp20) (b2 : Reg) : Nat := (s.addressRsy d2 b2).toNat % 64

/-- The branch address of BRCTH: a signed count of halfwords from IA (30_encoding R111). -/
def State.branchTarget (s : State) (ri2 : Word) : Dword :=
  s.cpu.psw.amode.wrap (s.cpu.psw.pc + 2#64 * ri2.signExtend 64)

/-- A signed immediate widened to a word (30_encoding R110). -/
def wordImmediate {w : Nat} (i : BitVec w) : Word := i.signExtend 32

/-- A signed immediate widened to a doubleword (30_encoding R110). -/
def dwordImmediate {w : Nat} (i : BitVec w) : Dword := i.signExtend 64

/-- cond(M3, CC): the mask bit of the current condition code, bit 0 the leftmost (43_load_store_on_condition R190). -/
def State.condition (s : State) (m3 : Mask) : Bool := m3.getMsbD s.cpu.psw.cc.toNat

end Sys2Proof.Machine
end

