-- ==== Sys2Proof/Machine/DistinctOperands.lean ====
section
/-! DEFINITION. The 22 instructions of the distinct-operands facility (44_distinct_operands). -/

namespace Sys2Proof.Machine

/-- A result with a condition code into GRL[R1] (44_distinct_operands R200). -/
def arithmeticLow (ilen : Nat) (r1 : Reg) (res : Arith 32) (s : State) : Result :=
  requireFacility ilen s <| complete ilen res.overflow s (((s.setGrl r1 res.value).setCc res.cc).advance ilen)

/-- A result with a condition code into GR[R1] (44_distinct_operands R200). -/
def arithmeticFull (ilen : Nat) (r1 : Reg) (res : Arith 64) (s : State) : Result :=
  requireFacility ilen s <| complete ilen res.overflow s (((s.setGr r1 res.value).setCc res.cc).advance ilen)

/-- ARK (44_distinct_operands R201). -/
def execArk (r1 r2 r3 : Reg) (s : State) : Result := arithmeticLow 4 r1 (addSigned (s.grl r2) (s.grl r3)) s

/-- AGRK (44_distinct_operands R202). -/
def execAgrk (r1 r2 r3 : Reg) (s : State) : Result := arithmeticFull 4 r1 (addSigned (s.gr r2) (s.gr r3)) s

/-- AHIK (44_distinct_operands R203). -/
def execAhik (r1 r3 : Reg) (i2 : Half) (s : State) : Result :=
  arithmeticLow 6 r1 (addSigned (s.grl r3) (wordImmediate i2)) s

/-- AGHIK (44_distinct_operands R204). -/
def execAghik (r1 r3 : Reg) (i2 : Half) (s : State) : Result :=
  arithmeticFull 6 r1 (addSigned (s.gr r3) (dwordImmediate i2)) s

/-- ALRK (44_distinct_operands R205). -/
def execAlrk (r1 r2 r3 : Reg) (s : State) : Result := arithmeticLow 4 r1 (addLogical (s.grl r2) (s.grl r3)) s

/-- ALGRK (44_distinct_operands R206). -/
def execAlgrk (r1 r2 r3 : Reg) (s : State) : Result := arithmeticFull 4 r1 (addLogical (s.gr r2) (s.gr r3)) s

/-- ALHSIK (44_distinct_operands R207). -/
def execAlhsik (r1 r3 : Reg) (i2 : Half) (s : State) : Result :=
  arithmeticLow 6 r1 (addLogical (s.grl r3) (wordImmediate i2)) s

/-- ALGHSIK (44_distinct_operands R208). -/
def execAlghsik (r1 r3 : Reg) (i2 : Half) (s : State) : Result :=
  arithmeticFull 6 r1 (addLogical (s.gr r3) (dwordImmediate i2)) s

/-- NRK (44_distinct_operands R209). -/
def execNrk (r1 r2 r3 : Reg) (s : State) : Result := arithmeticLow 4 r1 (bitwiseAnd (s.grl r2) (s.grl r3)) s

/-- NGRK (44_distinct_operands R210). -/
def execNgrk (r1 r2 r3 : Reg) (s : State) : Result := arithmeticFull 4 r1 (bitwiseAnd (s.gr r2) (s.gr r3)) s

/-- XRK (44_distinct_operands R211). -/
def execXrk (r1 r2 r3 : Reg) (s : State) : Result := arithmeticLow 4 r1 (bitwiseXor (s.grl r2) (s.grl r3)) s

/-- XGRK (44_distinct_operands R212). -/
def execXgrk (r1 r2 r3 : Reg) (s : State) : Result := arithmeticFull 4 r1 (bitwiseXor (s.gr r2) (s.gr r3)) s

/-- ORK (44_distinct_operands R213). -/
def execOrk (r1 r2 r3 : Reg) (s : State) : Result := arithmeticLow 4 r1 (bitwiseOr (s.grl r2) (s.grl r3)) s

/-- OGRK (44_distinct_operands R214). -/
def execOgrk (r1 r2 r3 : Reg) (s : State) : Result := arithmeticFull 4 r1 (bitwiseOr (s.gr r2) (s.gr r3)) s

/-- SLAK (44_distinct_operands R215). -/
def execSlak (r1 r3 : Reg) (d2 : Disp20) (b2 : Reg) (s : State) : Result :=
  arithmeticLow 6 r1 (shiftLeftSigned (s.grl r3) (s.shiftAmount d2 b2)) s

/-- SLLK (44_distinct_operands R216). -/
def execSllk (r1 r3 : Reg) (d2 : Disp20) (b2 : Reg) (s : State) : Result :=
  requireFacility 6 s <| .next ((s.setGrl r1 (s.grl r3 <<< s.shiftAmount d2 b2)).advance 6)

/-- SRAK (44_distinct_operands R217). -/
def execSrak (r1 r3 : Reg) (d2 : Disp20) (b2 : Reg) (s : State) : Result :=
  arithmeticLow 6 r1 (shiftRightSigned (s.grl r3) (s.shiftAmount d2 b2)) s

/-- SRLK (44_distinct_operands R218). -/
def execSrlk (r1 r3 : Reg) (d2 : Disp20) (b2 : Reg) (s : State) : Result :=
  requireFacility 6 s <| .next ((s.setGrl r1 (s.grl r3 >>> s.shiftAmount d2 b2)).advance 6)

/-- SRK (44_distinct_operands R219). -/
def execSrk (r1 r2 r3 : Reg) (s : State) : Result := arithmeticLow 4 r1 (subSigned (s.grl r2) (s.grl r3)) s

/-- SGRK (44_distinct_operands R220). -/
def execSgrk (r1 r2 r3 : Reg) (s : State) : Result := arithmeticFull 4 r1 (subSigned (s.gr r2) (s.gr r3)) s

/-- SLRK (44_distinct_operands R221). -/
def execSlrk (r1 r2 r3 : Reg) (s : State) : Result := arithmeticLow 4 r1 (subLogical (s.grl r2) (s.grl r3)) s

/-- SLGRK (44_distinct_operands R222). -/
def execSlgrk (r1 r2 r3 : Reg) (s : State) : Result := arithmeticFull 4 r1 (subLogical (s.gr r2) (s.gr r3)) s

end Sys2Proof.Machine
end

