-- ==== Sys2Proof/Machine/FloatingPoint.lean ====
section
/-! DEFINITION. The 55 instructions of the floating-point extension facility (46_floating_point_extension R243 to R297).
The source gives no number format, no rounding, no condition code and no exception of theirs: the model refuses them
(R241, 00_scope R6; log 19). -/

namespace Sys2Proof.Machine

/-- CXLFBR (R243). -/
def execCxlfbr (_r1 : Reg) (_m3 : Mask) (_r2 : Reg) (_m4 : Mask) (_s : State) : Result :=
  .refused (.floatingPointUndefined "CXLFBR")

/-- CDLFBR (R244). -/
def execCdlfbr (_r1 : Reg) (_m3 : Mask) (_r2 : Reg) (_m4 : Mask) (_s : State) : Result :=
  .refused (.floatingPointUndefined "CDLFBR")

/-- CELFBR (R245). -/
def execCelfbr (_r1 : Reg) (_m3 : Mask) (_r2 : Reg) (_m4 : Mask) (_s : State) : Result :=
  .refused (.floatingPointUndefined "CELFBR")

/-- CXLGBR (R246). -/
def execCxlgbr (_r1 : Reg) (_m3 : Mask) (_r2 : Reg) (_m4 : Mask) (_s : State) : Result :=
  .refused (.floatingPointUndefined "CXLGBR")

/-- CDLGBR (R247). -/
def execCdlgbr (_r1 : Reg) (_m3 : Mask) (_r2 : Reg) (_m4 : Mask) (_s : State) : Result :=
  .refused (.floatingPointUndefined "CDLGBR")

/-- CELGBR (R248). -/
def execCelgbr (_r1 : Reg) (_m3 : Mask) (_r2 : Reg) (_m4 : Mask) (_s : State) : Result :=
  .refused (.floatingPointUndefined "CELGBR")

/-- CLFXBR (R249). -/
def execClfxbr (_r1 : Reg) (_m3 : Mask) (_r2 : Reg) (_m4 : Mask) (_s : State) : Result :=
  .refused (.floatingPointUndefined "CLFXBR")

/-- CLFDBR (R250). -/
def execClfdbr (_r1 : Reg) (_m3 : Mask) (_r2 : Reg) (_m4 : Mask) (_s : State) : Result :=
  .refused (.floatingPointUndefined "CLFDBR")

/-- CLFEBR (R251). -/
def execClfebr (_r1 : Reg) (_m3 : Mask) (_r2 : Reg) (_m4 : Mask) (_s : State) : Result :=
  .refused (.floatingPointUndefined "CLFEBR")

/-- CLGXBR (R252). -/
def execClgxbr (_r1 : Reg) (_m3 : Mask) (_r2 : Reg) (_m4 : Mask) (_s : State) : Result :=
  .refused (.floatingPointUndefined "CLGXBR")

/-- CLGDBR (R253). -/
def execClgdbr (_r1 : Reg) (_m3 : Mask) (_r2 : Reg) (_m4 : Mask) (_s : State) : Result :=
  .refused (.floatingPointUndefined "CLGDBR")

/-- CLGEBR (R254). -/
def execClgebr (_r1 : Reg) (_m3 : Mask) (_r2 : Reg) (_m4 : Mask) (_s : State) : Result :=
  .refused (.floatingPointUndefined "CLGEBR")

/-- SRNMB (R255). -/
def execSrnmb (_d2 : Disp12) (_b2 : Reg) (_s : State) : Result := .refused (.floatingPointUndefined "SRNMB")

/-- CXFBRA (R256). -/
def execCxfbra (_r1 : Reg) (_m3 : Mask) (_r2 : Reg) (_m4 : Mask) (_s : State) : Result :=
  .refused (.floatingPointUndefined "CXFBRA")

/-- CDFBRA (R257). -/
def execCdfbra (_r1 : Reg) (_m3 : Mask) (_r2 : Reg) (_m4 : Mask) (_s : State) : Result :=
  .refused (.floatingPointUndefined "CDFBRA")

/-- CEFBRA (R258). -/
def execCefbra (_r1 : Reg) (_m3 : Mask) (_r2 : Reg) (_m4 : Mask) (_s : State) : Result :=
  .refused (.floatingPointUndefined "CEFBRA")

/-- CXGBRA (R259). -/
def execCxgbra (_r1 : Reg) (_m3 : Mask) (_r2 : Reg) (_m4 : Mask) (_s : State) : Result :=
  .refused (.floatingPointUndefined "CXGBRA")

/-- CDGBRA (R260). -/
def execCdgbra (_r1 : Reg) (_m3 : Mask) (_r2 : Reg) (_m4 : Mask) (_s : State) : Result :=
  .refused (.floatingPointUndefined "CDGBRA")

/-- CEGBRA (R261). -/
def execCegbra (_r1 : Reg) (_m3 : Mask) (_r2 : Reg) (_m4 : Mask) (_s : State) : Result :=
  .refused (.floatingPointUndefined "CEGBRA")

/-- CFXBRA (R262). -/
def execCfxbra (_r1 : Reg) (_m3 : Mask) (_r2 : Reg) (_m4 : Mask) (_s : State) : Result :=
  .refused (.floatingPointUndefined "CFXBRA")

/-- CFDBRA (R263). -/
def execCfdbra (_r1 : Reg) (_m3 : Mask) (_r2 : Reg) (_m4 : Mask) (_s : State) : Result :=
  .refused (.floatingPointUndefined "CFDBRA")

/-- CFEBRA (R264). -/
def execCfebra (_r1 : Reg) (_m3 : Mask) (_r2 : Reg) (_m4 : Mask) (_s : State) : Result :=
  .refused (.floatingPointUndefined "CFEBRA")

/-- CGXBRA (R265). -/
def execCgxbra (_r1 : Reg) (_m3 : Mask) (_r2 : Reg) (_m4 : Mask) (_s : State) : Result :=
  .refused (.floatingPointUndefined "CGXBRA")

/-- CGDBRA (R266). -/
def execCgdbra (_r1 : Reg) (_m3 : Mask) (_r2 : Reg) (_m4 : Mask) (_s : State) : Result :=
  .refused (.floatingPointUndefined "CGDBRA")

/-- CGEBRA (R267). -/
def execCgebra (_r1 : Reg) (_m3 : Mask) (_r2 : Reg) (_m4 : Mask) (_s : State) : Result :=
  .refused (.floatingPointUndefined "CGEBRA")

/-- FIXBRA (R268). -/
def execFixbra (_r1 : Reg) (_m3 : Mask) (_r2 : Reg) (_m4 : Mask) (_s : State) : Result :=
  .refused (.floatingPointUndefined "FIXBRA")

/-- FIDBRA (R269). -/
def execFidbra (_r1 : Reg) (_m3 : Mask) (_r2 : Reg) (_m4 : Mask) (_s : State) : Result :=
  .refused (.floatingPointUndefined "FIDBRA")

/-- FIEBRA (R270). -/
def execFiebra (_r1 : Reg) (_m3 : Mask) (_r2 : Reg) (_m4 : Mask) (_s : State) : Result :=
  .refused (.floatingPointUndefined "FIEBRA")

/-- LDXBRA (R271). -/
def execLdxbra (_r1 : Reg) (_m3 : Mask) (_r2 : Reg) (_m4 : Mask) (_s : State) : Result :=
  .refused (.floatingPointUndefined "LDXBRA")

/-- LEXBRA (R272). -/
def execLexbra (_r1 : Reg) (_m3 : Mask) (_r2 : Reg) (_m4 : Mask) (_s : State) : Result :=
  .refused (.floatingPointUndefined "LEXBRA")

/-- LEDBRA (R273). -/
def execLedbra (_r1 : Reg) (_m3 : Mask) (_r2 : Reg) (_m4 : Mask) (_s : State) : Result :=
  .refused (.floatingPointUndefined "LEDBRA")

/-- CXFTR (R274). -/
def execCxftr (_r1 : Reg) (_m3 : Mask) (_r2 : Reg) (_m4 : Mask) (_s : State) : Result :=
  .refused (.floatingPointUndefined "CXFTR")

/-- CDFTR (R275). -/
def execCdftr (_r1 : Reg) (_m3 : Mask) (_r2 : Reg) (_m4 : Mask) (_s : State) : Result :=
  .refused (.floatingPointUndefined "CDFTR")

/-- CXLFTR (R276). -/
def execCxlftr (_r1 : Reg) (_m3 : Mask) (_r2 : Reg) (_m4 : Mask) (_s : State) : Result :=
  .refused (.floatingPointUndefined "CXLFTR")

/-- CDLFTR (R277). -/
def execCdlftr (_r1 : Reg) (_m3 : Mask) (_r2 : Reg) (_m4 : Mask) (_s : State) : Result :=
  .refused (.floatingPointUndefined "CDLFTR")

/-- CXLGTR (R278). -/
def execCxlgtr (_r1 : Reg) (_m3 : Mask) (_r2 : Reg) (_m4 : Mask) (_s : State) : Result :=
  .refused (.floatingPointUndefined "CXLGTR")

/-- CDLGTR (R279). -/
def execCdlgtr (_r1 : Reg) (_m3 : Mask) (_r2 : Reg) (_m4 : Mask) (_s : State) : Result :=
  .refused (.floatingPointUndefined "CDLGTR")

/-- CFXTR (R280). -/
def execCfxtr (_r1 : Reg) (_m3 : Mask) (_r2 : Reg) (_m4 : Mask) (_s : State) : Result :=
  .refused (.floatingPointUndefined "CFXTR")

/-- CFDTR (R281). -/
def execCfdtr (_r1 : Reg) (_m3 : Mask) (_r2 : Reg) (_m4 : Mask) (_s : State) : Result :=
  .refused (.floatingPointUndefined "CFDTR")

/-- CLFXTR (R282). -/
def execClfxtr (_r1 : Reg) (_m3 : Mask) (_r2 : Reg) (_m4 : Mask) (_s : State) : Result :=
  .refused (.floatingPointUndefined "CLFXTR")

/-- CLFDTR (R283). -/
def execClfdtr (_r1 : Reg) (_m3 : Mask) (_r2 : Reg) (_m4 : Mask) (_s : State) : Result :=
  .refused (.floatingPointUndefined "CLFDTR")

/-- CLGXTR (R284). -/
def execClgxtr (_r1 : Reg) (_m3 : Mask) (_r2 : Reg) (_m4 : Mask) (_s : State) : Result :=
  .refused (.floatingPointUndefined "CLGXTR")

/-- CLGDTR (R285). -/
def execClgdtr (_r1 : Reg) (_m3 : Mask) (_r2 : Reg) (_m4 : Mask) (_s : State) : Result :=
  .refused (.floatingPointUndefined "CLGDTR")

/-- AXTRA (R286). -/
def execAxtra (_r1 _r2 _r3 : Reg) (_m4 : Mask) (_s : State) : Result := .refused (.floatingPointUndefined "AXTRA")

/-- ADTRA (R287). -/
def execAdtra (_r1 _r2 _r3 : Reg) (_m4 : Mask) (_s : State) : Result := .refused (.floatingPointUndefined "ADTRA")

/-- CXGTRA (R288). -/
def execCxgtra (_r1 : Reg) (_m3 : Mask) (_r2 : Reg) (_m4 : Mask) (_s : State) : Result :=
  .refused (.floatingPointUndefined "CXGTRA")

/-- CDGTRA (R289). -/
def execCdgtra (_r1 : Reg) (_m3 : Mask) (_r2 : Reg) (_m4 : Mask) (_s : State) : Result :=
  .refused (.floatingPointUndefined "CDGTRA")

/-- CGXTRA (R290). -/
def execCgxtra (_r1 : Reg) (_m3 : Mask) (_r2 : Reg) (_m4 : Mask) (_s : State) : Result :=
  .refused (.floatingPointUndefined "CGXTRA")

/-- CGDTRA (R291). -/
def execCgdtra (_r1 : Reg) (_m3 : Mask) (_r2 : Reg) (_m4 : Mask) (_s : State) : Result :=
  .refused (.floatingPointUndefined "CGDTRA")

/-- DXTRA (R292). -/
def execDxtra (_r1 _r2 _r3 : Reg) (_m4 : Mask) (_s : State) : Result := .refused (.floatingPointUndefined "DXTRA")

/-- DDTRA (R293). -/
def execDdtra (_r1 _r2 _r3 : Reg) (_m4 : Mask) (_s : State) : Result := .refused (.floatingPointUndefined "DDTRA")

/-- MXTRA (R294). -/
def execMxtra (_r1 _r2 _r3 : Reg) (_m4 : Mask) (_s : State) : Result := .refused (.floatingPointUndefined "MXTRA")

/-- MDTRA (R295). -/
def execMdtra (_r1 _r2 _r3 : Reg) (_m4 : Mask) (_s : State) : Result := .refused (.floatingPointUndefined "MDTRA")

/-- SXTRA (R296). -/
def execSxtra (_r1 _r2 _r3 : Reg) (_m4 : Mask) (_s : State) : Result := .refused (.floatingPointUndefined "SXTRA")

/-- SDTRA (R297). -/
def execSdtra (_r1 _r2 _r3 : Reg) (_m4 : Mask) (_s : State) : Result := .refused (.floatingPointUndefined "SDTRA")

end Sys2Proof.Machine
end

