-- ==== Sys2Proof/Machine/HighWord.lean ====
section
/-! DEFINITION. The 30 instructions of the high-word facility (40_high_word_a, 41_high_word_b). Only GRH[R1] is written
(RISBLG: GRL[R1]); the other half stays (40_high_word_a R130). -/

namespace Sys2Proof.Machine

/-- A result with a condition code into GRH[R1] (40_high_word_a R130). -/
def arithmeticHigh (ilen : Nat) (r1 : Reg) (res : Arith 32) (s : State) : Result :=
  requireFacility ilen s <| complete ilen res.overflow s (((s.setGrh r1 res.value).setCc res.cc).advance ilen)

/-- A comparison: only the condition code is set (40_high_word_a R139). -/
def compareHigh (ilen : Nat) (cc : CondCode) (s : State) : Result :=
  requireFacility ilen s <| .next ((s.setCc cc).advance ilen)

/-- A comparison of GRH[R1] with a word in storage (40_high_word_a R141, R145). -/
def compareHighStorage (compare : Word → Word → CondCode) (r1 : Reg) (d2 : Disp20) (x2 b2 : Reg) (s : State) : Result :=
  requireFacility 6 s <|
  withFetch (s.addressRxy d2 x2 b2) 4 6 s fun v =>
  .next ((s.setCc (compare (s.grh r1) (BitVec.ofNat 32 v))).advance 6)

/-- A load of `n` bytes, widened, into GRH[R1] (41_high_word_b R150). -/
def loadHigh (n : Nat) (widen : Nat → Word) (r1 : Reg) (d2 : Disp20) (x2 b2 : Reg) (s : State) : Result :=
  requireFacility 6 s <|
  withFetch (s.addressRxy d2 x2 b2) n 6 s fun v =>
  .next ((s.setGrh r1 (widen v)).advance 6)

/-- A store of `n` bytes (41_high_word_b R150). -/
def storeHigh {w : Nat} (n : Nat) (v : BitVec w) (d2 : Disp20) (x2 b2 : Reg) (s : State) : Result :=
  requireFacility 6 s <|
  withStore (s.addressRxy d2 x2 b2) n v 6 s fun t => .next (t.advance 6)

/-- AHHHR (40_high_word_a R131). -/
def execAhhhr (r1 r2 r3 : Reg) (s : State) : Result := arithmeticHigh 4 r1 (addSigned (s.grh r2) (s.grh r3)) s

/-- AHHLR (40_high_word_a R132). -/
def execAhhlr (r1 r2 r3 : Reg) (s : State) : Result := arithmeticHigh 4 r1 (addSigned (s.grh r2) (s.grl r3)) s

/-- AIH (40_high_word_a R133). -/
def execAih (r1 : Reg) (i2 : Word) (s : State) : Result := arithmeticHigh 6 r1 (addSigned (s.grh r1) i2) s

/-- ALHHHR (40_high_word_a R134). -/
def execAlhhhr (r1 r2 r3 : Reg) (s : State) : Result := arithmeticHigh 4 r1 (addLogical (s.grh r2) (s.grh r3)) s

/-- ALHHLR (40_high_word_a R135). -/
def execAlhhlr (r1 r2 r3 : Reg) (s : State) : Result := arithmeticHigh 4 r1 (addLogical (s.grh r2) (s.grl r3)) s

/-- ALSIH (40_high_word_a R136). -/
def execAlsih (r1 : Reg) (i2 : Word) (s : State) : Result := arithmeticHigh 6 r1 (addLogical (s.grh r1) i2) s

/-- ALSIHN (40_high_word_a R137: CC unchanged). -/
def execAlsihn (r1 : Reg) (i2 : Word) (s : State) : Result :=
  requireFacility 6 s <| .next ((s.setGrh r1 (s.grh r1 + i2)).advance 6)

/-- BRCTH (40_high_word_a R138: branch when the decremented count is not zero). -/
def execBrcth (r1 : Reg) (ri2 : Word) (s : State) : Result :=
  let count := s.grh r1 - 1#32
  requireFacility 6 s <|
  if count = 0#32 then .next ((s.setGrh r1 count).advance 6)
  else .next ((s.setGrh r1 count).jump (s.branchTarget ri2))

/-- CHHR (40_high_word_a R139). -/
def execChhr (r1 r2 : Reg) (s : State) : Result := compareHigh 4 (compareSigned (s.grh r1) (s.grh r2)) s

/-- CHLR (40_high_word_a R140). -/
def execChlr (r1 r2 : Reg) (s : State) : Result := compareHigh 4 (compareSigned (s.grh r1) (s.grl r2)) s

/-- CHF (40_high_word_a R141). -/
def execChf (r1 : Reg) (d2 : Disp20) (x2 b2 : Reg) (s : State) : Result :=
  compareHighStorage compareSigned r1 d2 x2 b2 s

/-- CIH (40_high_word_a R142). -/
def execCih (r1 : Reg) (i2 : Word) (s : State) : Result := compareHigh 6 (compareSigned (s.grh r1) i2) s

/-- CLHHR (40_high_word_a R143). -/
def execClhhr (r1 r2 : Reg) (s : State) : Result := compareHigh 4 (compareLogical (s.grh r1) (s.grh r2)) s

/-- CLHLR (40_high_word_a R144). -/
def execClhlr (r1 r2 : Reg) (s : State) : Result := compareHigh 4 (compareLogical (s.grh r1) (s.grl r2)) s

/-- CLHF (40_high_word_a R145). -/
def execClhf (r1 : Reg) (d2 : Disp20) (x2 b2 : Reg) (s : State) : Result :=
  compareHighStorage compareLogical r1 d2 x2 b2 s

/-- CLIH (40_high_word_a R146). -/
def execClih (r1 : Reg) (i2 : Word) (s : State) : Result := compareHigh 6 (compareLogical (s.grh r1) i2) s

/-- LBH (41_high_word_b R151). -/
def execLbh (r1 : Reg) (d2 : Disp20) (x2 b2 : Reg) (s : State) : Result :=
  loadHigh 1 (fun v => (BitVec.ofNat 8 v).signExtend 32) r1 d2 x2 b2 s

/-- LHH (41_high_word_b R152). -/
def execLhh (r1 : Reg) (d2 : Disp20) (x2 b2 : Reg) (s : State) : Result :=
  loadHigh 2 (fun v => (BitVec.ofNat 16 v).signExtend 32) r1 d2 x2 b2 s

/-- LFH (41_high_word_b R153). -/
def execLfh (r1 : Reg) (d2 : Disp20) (x2 b2 : Reg) (s : State) : Result :=
  loadHigh 4 (fun v => BitVec.ofNat 32 v) r1 d2 x2 b2 s

/-- LLCH (41_high_word_b R154). -/
def execLlch (r1 : Reg) (d2 : Disp20) (x2 b2 : Reg) (s : State) : Result :=
  loadHigh 1 (fun v => (BitVec.ofNat 8 v).setWidth 32) r1 d2 x2 b2 s

/-- LLHH (41_high_word_b R155). -/
def execLlhh (r1 : Reg) (d2 : Disp20) (x2 b2 : Reg) (s : State) : Result :=
  loadHigh 2 (fun v => (BitVec.ofNat 16 v).setWidth 32) r1 d2 x2 b2 s

/-- RISBHG (41_high_word_b R157: rule R156 on the high half). -/
def execRisbhg (r1 r2 : Reg) (i3 i4 i5 : Byte) (s : State) : Result :=
  let rotated := rotatedOperand (s.gr r2) i5
  requireFacility 6 s <| .next ((s.setGrh r1 (insertSelected (s.grh r1) (highWord rotated) i3 i4)).advance 6)

/-- RISBLG (41_high_word_b R158: rule R156 on the low half). -/
def execRisblg (r1 r2 : Reg) (i3 i4 i5 : Byte) (s : State) : Result :=
  let rotated := rotatedOperand (s.gr r2) i5
  requireFacility 6 s <| .next ((s.setGrl r1 (insertSelected (s.grl r1) (lowWord rotated) i3 i4)).advance 6)

/-- STCH (41_high_word_b R159: bits 24-31). -/
def execStch (r1 : Reg) (d2 : Disp20) (x2 b2 : Reg) (s : State) : Result :=
  storeHigh 1 ((s.grh r1).setWidth 8) d2 x2 b2 s

/-- STHH (41_high_word_b R160: bits 16-31). -/
def execSthh (r1 : Reg) (d2 : Disp20) (x2 b2 : Reg) (s : State) : Result :=
  storeHigh 2 ((s.grh r1).setWidth 16) d2 x2 b2 s

/-- STFH (41_high_word_b R161). -/
def execStfh (r1 : Reg) (d2 : Disp20) (x2 b2 : Reg) (s : State) : Result := storeHigh 4 (s.grh r1) d2 x2 b2 s

/-- SHHHR (41_high_word_b R162). -/
def execShhhr (r1 r2 r3 : Reg) (s : State) : Result := arithmeticHigh 4 r1 (subSigned (s.grh r2) (s.grh r3)) s

/-- SHHLR (41_high_word_b R163). -/
def execShhlr (r1 r2 r3 : Reg) (s : State) : Result := arithmeticHigh 4 r1 (subSigned (s.grh r2) (s.grl r3)) s

/-- SLHHHR (41_high_word_b R164). -/
def execSlhhhr (r1 r2 r3 : Reg) (s : State) : Result := arithmeticHigh 4 r1 (subLogical (s.grh r2) (s.grh r3)) s

/-- SLHHLR (41_high_word_b R165). -/
def execSlhhlr (r1 r2 r3 : Reg) (s : State) : Result := arithmeticHigh 4 r1 (subLogical (s.grh r2) (s.grl r3)) s

end Sys2Proof.Machine
end

