-- ==== Sys2Proof/Machine/InterlockedAccess.lean ====
section
/-! DEFINITION. The 12 instructions of the interlocked-access facility and the four existing ones it changes
(42_interlocked_access). -/

namespace Sys2Proof.Machine

/-- LAA and its kin, 32 bits (42_interlocked_access R170): storage receives the combination of its old value with
GRL[R3], GRL[R1] the old value, CC describes the new one. -/
def loadAndUpdate32 (op : Word → Word → Arith 32) (r1 r3 : Reg) (d2 : Disp20) (b2 : Reg) (s : State) : Result :=
  let a := s.addressRsy d2 b2
  requireFacility 6 s <|
  requireDesignation (aligned a 4) 6 s <|
  withInterlocked a 4 6 s fun t old =>
  let res := op (BitVec.ofNat 32 old) (s.grl r3)
  complete 6 res.overflow s
    ((((t.writeStorage a (bytesOf 4 res.value)).setGrl r1 (BitVec.ofNat 32 old)).setCc res.cc).advance 6)

/-- LAAG and its kin, 64 bits (42_interlocked_access R170). -/
def loadAndUpdate64 (op : Dword → Dword → Arith 64) (r1 r3 : Reg) (d2 : Disp20) (b2 : Reg) (s : State) : Result :=
  let a := s.addressRsy d2 b2
  requireFacility 6 s <|
  requireDesignation (aligned a 8) 6 s <|
  withInterlocked a 8 6 s fun t old =>
  let res := op (BitVec.ofNat 64 old) (s.gr r3)
  complete 6 res.overflow s
    ((((t.writeStorage a (bytesOf 8 res.value)).setGr r1 (BitVec.ofNat 64 old)).setCc res.cc).advance 6)

/-- A fetched word into GRL[r] (42_interlocked_access R181). -/
def State.putLow (s : State) (r : Reg) (v : Nat) : State := s.setGrl r (BitVec.ofNat 32 v)

/-- A fetched doubleword into GR[r] (42_interlocked_access R182). -/
def State.putFull (s : State) (r : Reg) (v : Nat) : State := s.setGr r (BitVec.ofNat 64 v)

/-- The odd register of a pair (10_state R22). -/
def oddOfPair (r : Reg) : Reg := r + 1

/-- LPD and LPDG (42_interlocked_access R181): a draw decides whether the pair is fetched at one instant, CC 0, or each
operand at an instant of its own, CC 3 (20_memory R70; log 10). -/
def loadPair (n : Nat) (put : State → Reg → Nat → State) (r3 : Reg) (d1 : Disp12) (b1 : Reg) (d2 : Disp12) (b2 : Reg)
    (s : State) : Result :=
  let a1 := s.addressSsf d1 b1
  let a2 := s.addressSsf d2 b2
  requireFacility 6 s <|
  requireDesignation (r3.val % 2 == 0 && aligned a1 n && aligned a2 n) 6 s <|
  requirePresent (s.operand a1 n) 6 s <|
  requirePresent (s.operand a2 n) 6 s <|
  let altered := Config.lpdAltered s.draws
  let v1 := beValue (if altered then s.fetchBlock a1 n else s.fetchNow (s.operand a1 n))
  let v2 := beValue (if altered then s.fetchBlock a2 n else s.fetchNow (s.operand a2 n))
  let t : State := { s with draws := s.draws + 1 }
  .next (((put (put t r3 v1) (oddOfPair r3) v2).setCc (if altered then 3#2 else 0#2)).advance 6)

/-- ASI and its kin (42_interlocked_access R183): interlocked when the operand is on its integral boundary and the
interlocked-access facility is installed (20_memory R69), else a fetch and a store. -/
def addToStorage {w : Nat} (n : Nat) (op : BitVec w → BitVec w → Arith w) (i : BitVec w) (d1 : Disp20) (b1 : Reg)
    (s : State) : Result :=
  let a := s.addressRsy d1 b1
  if aligned a n && s.facilities.contains 45 then
    withInterlocked a n 6 s fun t old =>
    let res := op (BitVec.ofNat w old) i
    complete 6 res.overflow s (((t.writeStorage a (bytesOf n res.value)).setCc res.cc).advance 6)
  else
    withUpdate a n 6 s fun old =>
    let res := op (BitVec.ofNat w old) i
    complete 6 res.overflow s (((s.bufferStore a (bytesOf n res.value)).setCc res.cc).advance 6)

/-- LAA (42_interlocked_access R171). -/
def execLaa (r1 r3 : Reg) (d2 : Disp20) (b2 : Reg) (s : State) : Result := loadAndUpdate32 addSigned r1 r3 d2 b2 s

/-- LAAG (42_interlocked_access R172). -/
def execLaag (r1 r3 : Reg) (d2 : Disp20) (b2 : Reg) (s : State) : Result := loadAndUpdate64 addSigned r1 r3 d2 b2 s

/-- LAAL (42_interlocked_access R173). -/
def execLaal (r1 r3 : Reg) (d2 : Disp20) (b2 : Reg) (s : State) : Result := loadAndUpdate32 addLogical r1 r3 d2 b2 s

/-- LAALG (42_interlocked_access R174). -/
def execLaalg (r1 r3 : Reg) (d2 : Disp20) (b2 : Reg) (s : State) : Result := loadAndUpdate64 addLogical r1 r3 d2 b2 s

/-- LAN (42_interlocked_access R175). -/
def execLan (r1 r3 : Reg) (d2 : Disp20) (b2 : Reg) (s : State) : Result := loadAndUpdate32 bitwiseAnd r1 r3 d2 b2 s

/-- LANG (42_interlocked_access R176). -/
def execLang (r1 r3 : Reg) (d2 : Disp20) (b2 : Reg) (s : State) : Result := loadAndUpdate64 bitwiseAnd r1 r3 d2 b2 s

/-- LAX (42_interlocked_access R177). -/
def execLax (r1 r3 : Reg) (d2 : Disp20) (b2 : Reg) (s : State) : Result := loadAndUpdate32 bitwiseXor r1 r3 d2 b2 s

/-- LAXG (42_interlocked_access R178). -/
def execLaxg (r1 r3 : Reg) (d2 : Disp20) (b2 : Reg) (s : State) : Result := loadAndUpdate64 bitwiseXor r1 r3 d2 b2 s

/-- LAO (42_interlocked_access R179). -/
def execLao (r1 r3 : Reg) (d2 : Disp20) (b2 : Reg) (s : State) : Result := loadAndUpdate32 bitwiseOr r1 r3 d2 b2 s

/-- LAOG (42_interlocked_access R180). -/
def execLaog (r1 r3 : Reg) (d2 : Disp20) (b2 : Reg) (s : State) : Result := loadAndUpdate64 bitwiseOr r1 r3 d2 b2 s

/-- LPD (42_interlocked_access R181: into the low words). -/
def execLpd (r3 : Reg) (d1 : Disp12) (b1 : Reg) (d2 : Disp12) (b2 : Reg) (s : State) : Result :=
  loadPair 4 State.putLow r3 d1 b1 d2 b2 s

/-- LPDG (42_interlocked_access R182: into the whole registers). -/
def execLpdg (r3 : Reg) (d1 : Disp12) (b1 : Reg) (d2 : Disp12) (b2 : Reg) (s : State) : Result :=
  loadPair 8 State.putFull r3 d1 b1 d2 b2 s

/-- ASI (42_interlocked_access R183). -/
def execAsi (d1 : Disp20) (b1 : Reg) (i2 : Byte) (s : State) : Result :=
  addToStorage 4 addSigned (wordImmediate i2) d1 b1 s

/-- AGSI (42_interlocked_access R184). -/
def execAgsi (d1 : Disp20) (b1 : Reg) (i2 : Byte) (s : State) : Result :=
  addToStorage 8 addSigned (dwordImmediate i2) d1 b1 s

/-- ALSI (42_interlocked_access R185). -/
def execAlsi (d1 : Disp20) (b1 : Reg) (i2 : Byte) (s : State) : Result :=
  addToStorage 4 addLogical (wordImmediate i2) d1 b1 s

/-- ALGSI (42_interlocked_access R186). -/
def execAlgsi (d1 : Disp20) (b1 : Reg) (i2 : Byte) (s : State) : Result :=
  addToStorage 8 addLogical (dwordImmediate i2) d1 b1 s

end Sys2Proof.Machine
end

