-- ==== Sys2Proof/Machine/LoadStoreOnCondition.lean ====
section
/-! DEFINITION. The six instructions of the load/store-on-condition facility (43_load_store_on_condition). -/

namespace Sys2Proof.Machine

/-- A conditional load from storage (43_load_store_on_condition R193, R194); a false condition is rule R199. -/
def loadOnCondition (n : Nat) (put : Nat → State) (d2 : Disp20) (b2 : Reg) (m3 : Mask) (s : State) : Result :=
  let a := s.addressRsy d2 b2
  requireFacility 6 s <|
  if s.condition m3 then withFetch a n 6 s fun v => .next ((put v).advance 6)
  else conditionFalse a n 6 s

/-- A conditional store (43_load_store_on_condition R195, R196); a false condition is rule R199. -/
def storeOnCondition {w : Nat} (n : Nat) (v : BitVec w) (d2 : Disp20) (b2 : Reg) (m3 : Mask) (s : State) : Result :=
  let a := s.addressRsy d2 b2
  requireFacility 6 s <|
  if s.condition m3 then withStore a n v 6 s fun t => .next (t.advance 6)
  else conditionFalse a n 6 s

/-- LOCR (43_load_store_on_condition R191). -/
def execLocr (r1 r2 : Reg) (m3 : Mask) (s : State) : Result :=
  requireFacility 4 s <|
  .next ((if s.condition m3 then s.setGrl r1 (s.grl r2) else s).advance 4)

/-- LOCGR (43_load_store_on_condition R192). -/
def execLocgr (r1 r2 : Reg) (m3 : Mask) (s : State) : Result :=
  requireFacility 4 s <|
  .next ((if s.condition m3 then s.setGr r1 (s.gr r2) else s).advance 4)

/-- LOC (43_load_store_on_condition R193). -/
def execLoc (r1 : Reg) (d2 : Disp20) (b2 : Reg) (m3 : Mask) (s : State) : Result :=
  loadOnCondition 4 (fun v => s.setGrl r1 (BitVec.ofNat 32 v)) d2 b2 m3 s

/-- LOCG (43_load_store_on_condition R194). -/
def execLocg (r1 : Reg) (d2 : Disp20) (b2 : Reg) (m3 : Mask) (s : State) : Result :=
  loadOnCondition 8 (fun v => s.setGr r1 (BitVec.ofNat 64 v)) d2 b2 m3 s

/-- STOC (43_load_store_on_condition R195). -/
def execStoc (r1 : Reg) (d2 : Disp20) (b2 : Reg) (m3 : Mask) (s : State) : Result :=
  storeOnCondition 4 (s.grl r1) d2 b2 m3 s

/-- STOCG (43_load_store_on_condition R196). -/
def execStocg (r1 : Reg) (d2 : Disp20) (b2 : Reg) (m3 : Mask) (s : State) : Result :=
  storeOnCondition 8 (s.gr r1) d2 b2 m3 s

end Sys2Proof.Machine
end

