-- ==== Sys2Proof/Machine/MessageSecurity.lean ====
section
/-! DEFINITION. The five instructions of the message-security-assist extensions (47_message_security_assist R312, R315 to
R318). The source gives no encoding, no operand convention and no algorithm: the model refuses them (R320, 00_scope R7;
log 20). -/

namespace Sys2Proof.Machine

/-- PCKMO (R312). -/
def execPckmo (_r1 _r2 : Reg) (_s : State) : Result := .refused (.cryptographicUndefined "PCKMO")

/-- KMF (R315). -/
def execKmf (_r1 _r2 : Reg) (_s : State) : Result := .refused (.cryptographicUndefined "KMF")

/-- KMCTR (R316). -/
def execKmctr (_r1 _r2 _r3 : Reg) (_s : State) : Result := .refused (.cryptographicUndefined "KMCTR")

/-- KMO (R317). -/
def execKmo (_r1 _r2 : Reg) (_s : State) : Result := .refused (.cryptographicUndefined "KMO")

/-- PCC (R318). -/
def execPcc (_r1 _r2 : Reg) (_s : State) : Result := .refused (.cryptographicUndefined "PCC")

end Sys2Proof.Machine
end

