-- ==== Sys2Proof/Machine/Miscellaneous.lean ====
section
/-! DEFINITION. The serializing forms of BRANCH ON CONDITION (48_miscellaneous) and the form without a row. -/

namespace Sys2Proof.Machine

/-- A BCR that does not branch and does not serialize (48_miscellaneous R331 with facility bit 45 zero, R332; log 17). -/
def bcrNoOperation (s : State) : Result := .next (s.advance 2)

/-- BCR 15,0 (48_miscellaneous R330: serialization; checkpoint synchronization has no effect). -/
def execBcr_15_0 (s : State) : Result := .next (s.drainAll.advance 2)

/-- BCR 14,0 (48_miscellaneous R331: serialization when facility bit 45 is one). -/
def execBcr_14_0 (s : State) : Result :=
  if s.facilities.contains 45 then .next (s.drainAll.advance 2) else bcrNoOperation s

end Sys2Proof.Machine
end

