-- ==== Sys2Proof/Machine/PopulationCount.lean ====
section
/-! DEFINITION. The population-count facility (45_population_count). -/

namespace Sys2Proof.Machine

/-- POPCNT (45_population_count R230). -/
def execPopcnt (r1 r2 : Reg) (s : State) : Result :=
  let res := populationCount (s.gr r2)
  requireFacility 4 s <| .next (((s.setGr r1 res.value).setCc res.cc).advance 4)

end Sys2Proof.Machine
end

