-- ==== Sys2Proof/Machine/Dispatch.lean ====
section
/-! DEFINITION. One arm for every instruction. -/

namespace Sys2Proof.Machine

def exec (i : Instr) (s : State) : Host.Outcome State Fault Refusal :=
  match i with
  | .ahhhr r1 r2 r3 => Sys2Proof.Machine.execAhhhr r1 r2 r3 s
  | .ahhlr r1 r2 r3 => Sys2Proof.Machine.execAhhlr r1 r2 r3 s
  | .aih r1 i2 => Sys2Proof.Machine.execAih r1 i2 s
  | .alhhhr r1 r2 r3 => Sys2Proof.Machine.execAlhhhr r1 r2 r3 s
  | .alhhlr r1 r2 r3 => Sys2Proof.Machine.execAlhhlr r1 r2 r3 s
  | .alsih r1 i2 => Sys2Proof.Machine.execAlsih r1 i2 s
  | .alsihn r1 i2 => Sys2Proof.Machine.execAlsihn r1 i2 s
  | .brcth r1 ri2 => Sys2Proof.Machine.execBrcth r1 ri2 s
  | .chhr r1 r2 => Sys2Proof.Machine.execChhr r1 r2 s
  | .chlr r1 r2 => Sys2Proof.Machine.execChlr r1 r2 s
  | .chf r1 d2 x2 b2 => Sys2Proof.Machine.execChf r1 d2 x2 b2 s
  | .cih r1 i2 => Sys2Proof.Machine.execCih r1 i2 s
  | .clhhr r1 r2 => Sys2Proof.Machine.execClhhr r1 r2 s
  | .clhlr r1 r2 => Sys2Proof.Machine.execClhlr r1 r2 s
  | .clhf r1 d2 x2 b2 => Sys2Proof.Machine.execClhf r1 d2 x2 b2 s
  | .clih r1 i2 => Sys2Proof.Machine.execClih r1 i2 s
  | .lbh r1 d2 x2 b2 => Sys2Proof.Machine.execLbh r1 d2 x2 b2 s
  | .lhh r1 d2 x2 b2 => Sys2Proof.Machine.execLhh r1 d2 x2 b2 s
  | .lfh r1 d2 x2 b2 => Sys2Proof.Machine.execLfh r1 d2 x2 b2 s
  | .llch r1 d2 x2 b2 => Sys2Proof.Machine.execLlch r1 d2 x2 b2 s
  | .llhh r1 d2 x2 b2 => Sys2Proof.Machine.execLlhh r1 d2 x2 b2 s
  | .risbhg r1 r2 i3 i4 i5 => Sys2Proof.Machine.execRisbhg r1 r2 i3 i4 i5 s
  | .risblg r1 r2 i3 i4 i5 => Sys2Proof.Machine.execRisblg r1 r2 i3 i4 i5 s
  | .stch r1 d2 x2 b2 => Sys2Proof.Machine.execStch r1 d2 x2 b2 s
  | .sthh r1 d2 x2 b2 => Sys2Proof.Machine.execSthh r1 d2 x2 b2 s
  | .stfh r1 d2 x2 b2 => Sys2Proof.Machine.execStfh r1 d2 x2 b2 s
  | .shhhr r1 r2 r3 => Sys2Proof.Machine.execShhhr r1 r2 r3 s
  | .shhlr r1 r2 r3 => Sys2Proof.Machine.execShhlr r1 r2 r3 s
  | .slhhhr r1 r2 r3 => Sys2Proof.Machine.execSlhhhr r1 r2 r3 s
  | .slhhlr r1 r2 r3 => Sys2Proof.Machine.execSlhhlr r1 r2 r3 s
  | .laa r1 r3 d2 b2 => Sys2Proof.Machine.execLaa r1 r3 d2 b2 s
  | .laag r1 r3 d2 b2 => Sys2Proof.Machine.execLaag r1 r3 d2 b2 s
  | .laal r1 r3 d2 b2 => Sys2Proof.Machine.execLaal r1 r3 d2 b2 s
  | .laalg r1 r3 d2 b2 => Sys2Proof.Machine.execLaalg r1 r3 d2 b2 s
  | .lan r1 r3 d2 b2 => Sys2Proof.Machine.execLan r1 r3 d2 b2 s
  | .lang r1 r3 d2 b2 => Sys2Proof.Machine.execLang r1 r3 d2 b2 s
  | .lax r1 r3 d2 b2 => Sys2Proof.Machine.execLax r1 r3 d2 b2 s
  | .laxg r1 r3 d2 b2 => Sys2Proof.Machine.execLaxg r1 r3 d2 b2 s
  | .lao r1 r3 d2 b2 => Sys2Proof.Machine.execLao r1 r3 d2 b2 s
  | .laog r1 r3 d2 b2 => Sys2Proof.Machine.execLaog r1 r3 d2 b2 s
  | .lpd r3 d1 b1 d2 b2 => Sys2Proof.Machine.execLpd r3 d1 b1 d2 b2 s
  | .lpdg r3 d1 b1 d2 b2 => Sys2Proof.Machine.execLpdg r3 d1 b1 d2 b2 s
  | .asi d1 b1 i2 => Sys2Proof.Machine.execAsi d1 b1 i2 s
  | .agsi d1 b1 i2 => Sys2Proof.Machine.execAgsi d1 b1 i2 s
  | .alsi d1 b1 i2 => Sys2Proof.Machine.execAlsi d1 b1 i2 s
  | .algsi d1 b1 i2 => Sys2Proof.Machine.execAlgsi d1 b1 i2 s
  | .locr r1 r2 m3 => Sys2Proof.Machine.execLocr r1 r2 m3 s
  | .locgr r1 r2 m3 => Sys2Proof.Machine.execLocgr r1 r2 m3 s
  | .loc r1 d2 b2 m3 => Sys2Proof.Machine.execLoc r1 d2 b2 m3 s
  | .locg r1 d2 b2 m3 => Sys2Proof.Machine.execLocg r1 d2 b2 m3 s
  | .stoc r1 d2 b2 m3 => Sys2Proof.Machine.execStoc r1 d2 b2 m3 s
  | .stocg r1 d2 b2 m3 => Sys2Proof.Machine.execStocg r1 d2 b2 m3 s
  | .ark r1 r2 r3 => Sys2Proof.Machine.execArk r1 r2 r3 s
  | .agrk r1 r2 r3 => Sys2Proof.Machine.execAgrk r1 r2 r3 s
  | .ahik r1 r3 i2 => Sys2Proof.Machine.execAhik r1 r3 i2 s
  | .aghik r1 r3 i2 => Sys2Proof.Machine.execAghik r1 r3 i2 s
  | .alrk r1 r2 r3 => Sys2Proof.Machine.execAlrk r1 r2 r3 s
  | .algrk r1 r2 r3 => Sys2Proof.Machine.execAlgrk r1 r2 r3 s
  | .alhsik r1 r3 i2 => Sys2Proof.Machine.execAlhsik r1 r3 i2 s
  | .alghsik r1 r3 i2 => Sys2Proof.Machine.execAlghsik r1 r3 i2 s
  | .nrk r1 r2 r3 => Sys2Proof.Machine.execNrk r1 r2 r3 s
  | .ngrk r1 r2 r3 => Sys2Proof.Machine.execNgrk r1 r2 r3 s
  | .xrk r1 r2 r3 => Sys2Proof.Machine.execXrk r1 r2 r3 s
  | .xgrk r1 r2 r3 => Sys2Proof.Machine.execXgrk r1 r2 r3 s
  | .ork r1 r2 r3 => Sys2Proof.Machine.execOrk r1 r2 r3 s
  | .ogrk r1 r2 r3 => Sys2Proof.Machine.execOgrk r1 r2 r3 s
  | .slak r1 r3 d2 b2 => Sys2Proof.Machine.execSlak r1 r3 d2 b2 s
  | .sllk r1 r3 d2 b2 => Sys2Proof.Machine.execSllk r1 r3 d2 b2 s
  | .srak r1 r3 d2 b2 => Sys2Proof.Machine.execSrak r1 r3 d2 b2 s
  | .srlk r1 r3 d2 b2 => Sys2Proof.Machine.execSrlk r1 r3 d2 b2 s
  | .srk r1 r2 r3 => Sys2Proof.Machine.execSrk r1 r2 r3 s
  | .sgrk r1 r2 r3 => Sys2Proof.Machine.execSgrk r1 r2 r3 s
  | .slrk r1 r2 r3 => Sys2Proof.Machine.execSlrk r1 r2 r3 s
  | .slgrk r1 r2 r3 => Sys2Proof.Machine.execSlgrk r1 r2 r3 s
  | .popcnt r1 r2 => Sys2Proof.Machine.execPopcnt r1 r2 s
  | .bcr_15_0 => Sys2Proof.Machine.execBcr_15_0 s
  | .bcr_14_0 => Sys2Proof.Machine.execBcr_14_0 s
  | .cxlfbr r1 m3 r2 m4 => Sys2Proof.Machine.execCxlfbr r1 m3 r2 m4 s
  | .cdlfbr r1 m3 r2 m4 => Sys2Proof.Machine.execCdlfbr r1 m3 r2 m4 s
  | .celfbr r1 m3 r2 m4 => Sys2Proof.Machine.execCelfbr r1 m3 r2 m4 s
  | .cxlgbr r1 m3 r2 m4 => Sys2Proof.Machine.execCxlgbr r1 m3 r2 m4 s
  | .cdlgbr r1 m3 r2 m4 => Sys2Proof.Machine.execCdlgbr r1 m3 r2 m4 s
  | .celgbr r1 m3 r2 m4 => Sys2Proof.Machine.execCelgbr r1 m3 r2 m4 s
  | .clfxbr r1 m3 r2 m4 => Sys2Proof.Machine.execClfxbr r1 m3 r2 m4 s
  | .clfdbr r1 m3 r2 m4 => Sys2Proof.Machine.execClfdbr r1 m3 r2 m4 s
  | .clfebr r1 m3 r2 m4 => Sys2Proof.Machine.execClfebr r1 m3 r2 m4 s
  | .clgxbr r1 m3 r2 m4 => Sys2Proof.Machine.execClgxbr r1 m3 r2 m4 s
  | .clgdbr r1 m3 r2 m4 => Sys2Proof.Machine.execClgdbr r1 m3 r2 m4 s
  | .clgebr r1 m3 r2 m4 => Sys2Proof.Machine.execClgebr r1 m3 r2 m4 s
  | .srnmb d2 b2 => Sys2Proof.Machine.execSrnmb d2 b2 s
  | .cxfbra r1 m3 r2 m4 => Sys2Proof.Machine.execCxfbra r1 m3 r2 m4 s
  | .cdfbra r1 m3 r2 m4 => Sys2Proof.Machine.execCdfbra r1 m3 r2 m4 s
  | .cefbra r1 m3 r2 m4 => Sys2Proof.Machine.execCefbra r1 m3 r2 m4 s
  | .cxgbra r1 m3 r2 m4 => Sys2Proof.Machine.execCxgbra r1 m3 r2 m4 s
  | .cdgbra r1 m3 r2 m4 => Sys2Proof.Machine.execCdgbra r1 m3 r2 m4 s
  | .cegbra r1 m3 r2 m4 => Sys2Proof.Machine.execCegbra r1 m3 r2 m4 s
  | .cfxbra r1 m3 r2 m4 => Sys2Proof.Machine.execCfxbra r1 m3 r2 m4 s
  | .cfdbra r1 m3 r2 m4 => Sys2Proof.Machine.execCfdbra r1 m3 r2 m4 s
  | .cfebra r1 m3 r2 m4 => Sys2Proof.Machine.execCfebra r1 m3 r2 m4 s
  | .cgxbra r1 m3 r2 m4 => Sys2Proof.Machine.execCgxbra r1 m3 r2 m4 s
  | .cgdbra r1 m3 r2 m4 => Sys2Proof.Machine.execCgdbra r1 m3 r2 m4 s
  | .cgebra r1 m3 r2 m4 => Sys2Proof.Machine.execCgebra r1 m3 r2 m4 s
  | .fixbra r1 m3 r2 m4 => Sys2Proof.Machine.execFixbra r1 m3 r2 m4 s
  | .fidbra r1 m3 r2 m4 => Sys2Proof.Machine.execFidbra r1 m3 r2 m4 s
  | .fiebra r1 m3 r2 m4 => Sys2Proof.Machine.execFiebra r1 m3 r2 m4 s
  | .ldxbra r1 m3 r2 m4 => Sys2Proof.Machine.execLdxbra r1 m3 r2 m4 s
  | .lexbra r1 m3 r2 m4 => Sys2Proof.Machine.execLexbra r1 m3 r2 m4 s
  | .ledbra r1 m3 r2 m4 => Sys2Proof.Machine.execLedbra r1 m3 r2 m4 s
  | .cxftr r1 m3 r2 m4 => Sys2Proof.Machine.execCxftr r1 m3 r2 m4 s
  | .cdftr r1 m3 r2 m4 => Sys2Proof.Machine.execCdftr r1 m3 r2 m4 s
  | .cxlftr r1 m3 r2 m4 => Sys2Proof.Machine.execCxlftr r1 m3 r2 m4 s
  | .cdlftr r1 m3 r2 m4 => Sys2Proof.Machine.execCdlftr r1 m3 r2 m4 s
  | .cxlgtr r1 m3 r2 m4 => Sys2Proof.Machine.execCxlgtr r1 m3 r2 m4 s
  | .cdlgtr r1 m3 r2 m4 => Sys2Proof.Machine.execCdlgtr r1 m3 r2 m4 s
  | .cfxtr r1 m3 r2 m4 => Sys2Proof.Machine.execCfxtr r1 m3 r2 m4 s
  | .cfdtr r1 m3 r2 m4 => Sys2Proof.Machine.execCfdtr r1 m3 r2 m4 s
  | .clfxtr r1 m3 r2 m4 => Sys2Proof.Machine.execClfxtr r1 m3 r2 m4 s
  | .clfdtr r1 m3 r2 m4 => Sys2Proof.Machine.execClfdtr r1 m3 r2 m4 s
  | .clgxtr r1 m3 r2 m4 => Sys2Proof.Machine.execClgxtr r1 m3 r2 m4 s
  | .clgdtr r1 m3 r2 m4 => Sys2Proof.Machine.execClgdtr r1 m3 r2 m4 s
  | .axtra r1 r2 r3 m4 => Sys2Proof.Machine.execAxtra r1 r2 r3 m4 s
  | .adtra r1 r2 r3 m4 => Sys2Proof.Machine.execAdtra r1 r2 r3 m4 s
  | .cxgtra r1 m3 r2 m4 => Sys2Proof.Machine.execCxgtra r1 m3 r2 m4 s
  | .cdgtra r1 m3 r2 m4 => Sys2Proof.Machine.execCdgtra r1 m3 r2 m4 s
  | .cgxtra r1 m3 r2 m4 => Sys2Proof.Machine.execCgxtra r1 m3 r2 m4 s
  | .cgdtra r1 m3 r2 m4 => Sys2Proof.Machine.execCgdtra r1 m3 r2 m4 s
  | .dxtra r1 r2 r3 m4 => Sys2Proof.Machine.execDxtra r1 r2 r3 m4 s
  | .ddtra r1 r2 r3 m4 => Sys2Proof.Machine.execDdtra r1 r2 r3 m4 s
  | .mxtra r1 r2 r3 m4 => Sys2Proof.Machine.execMxtra r1 r2 r3 m4 s
  | .mdtra r1 r2 r3 m4 => Sys2Proof.Machine.execMdtra r1 r2 r3 m4 s
  | .sxtra r1 r2 r3 m4 => Sys2Proof.Machine.execSxtra r1 r2 r3 m4 s
  | .sdtra r1 r2 r3 m4 => Sys2Proof.Machine.execSdtra r1 r2 r3 m4 s
  | .pckmo r1 r2 => Sys2Proof.Machine.execPckmo r1 r2 s
  | .kmf r1 r2 => Sys2Proof.Machine.execKmf r1 r2 s
  | .kmctr r1 r2 r3 => Sys2Proof.Machine.execKmctr r1 r2 r3 s
  | .kmo r1 r2 => Sys2Proof.Machine.execKmo r1 r2 s
  | .pcc r1 r2 => Sys2Proof.Machine.execPcc r1 r2 s

end Sys2Proof.Machine
end

