-- ==== Sys2Proof/Machine/Run.lean ====
section
/-! DEFINITION. Fetching, running one CPU, and the moves of the schedule; Step.lean only calls them. -/

namespace Sys2Proof.Machine

/-! ## Instruction fetch -/

/-- Whether the active CPU may fetch an instruction byte: it is in STORAGE and in the CPU's program text
(60_exceptions R356). -/
def State.fetchable (s : State) (a : Nat) : Bool := s.present [a] && s.cpu.hasText a

/-- ILEN of the instruction at pc, as soon as its first byte is fetched (30_encoding R91); none when it is not, pc being
odd or the byte not fetchable. -/
def State.fetchedLength (s : State) : Option Nat :=
  let head := s.operand s.cpu.psw.pc 1
  if s.cpu.psw.pc.toNat % 2 = 0 ∧ head.all s.fetchable then
    some (instructionLength (Memory.read s.storage (head.headD 0)))
  else none

/-- The bytes of the instruction at pc, or the exception its fetch meets: specification for an odd pc, then addressing
(20_memory R64, R66; 60_exceptions R355, R356, R360). Program text does not change (20_memory R77), so storage holds
what the CPU sees. -/
def State.fetchInstruction (s : State) : Except ProgramException (List Byte) :=
  if s.cpu.psw.pc.toNat % 2 ≠ 0 then .error .specification
  else
    match s.fetchedLength with
    | none => .error .addressing
    | some n =>
      let whole := s.operand s.cpu.psw.pc n
      if whole.all s.fetchable then .ok (whole.map (Memory.read s.storage)) else .error .addressing

/-! ## One CPU -/

/-- Whether a CPU executes instructions (60_exceptions R370). -/
def Cpu.isOperating (c : Cpu) : Bool := c.status == .operating

/-- The active CPU stops in the finished state (70_reset_and_hazards R383). -/
def State.finish (s : State) : State := { s with cpu := { s.cpu with status := .finished } }

/-- One instruction of the active CPU (00_scope R13): at an end address it finishes instead; a fetch exception records
the ILEN that the first byte gives, where that byte was fetched (60_exceptions R350, 30_encoding R91; log 9); an operation
code without a row is refused (30_encoding R117), but for the BCR that does nothing (48_miscellaneous R332). -/
def runActive (s : State) : Result :=
  if s.cpu.endAddresses.contains s.cpu.psw.pc then .next s.finish
  else
    match s.fetchInstruction with
    | .error e => .next (s.takeException e s.cpu.psw.pc s.fetchedLength)
    | .ok bs =>
      match decode bs with
      | .ok i => exec i s
      | .error _ => if isBcrNoOperation bs then bcrNoOperation s else .refused .unknownOperationCode

/-! ## The moves (log 12) -/

/-- The CPU with a number among the others becomes the active one. -/
def State.switchTo (s : State) (k : Nat) : Option State :=
  match s.others[k]? with
  | some c => some { s with cpu := c, others := s.others.set k s.cpu }
  | none => none

/-- The oldest store of the active CPU without its piece `p`, the pieces being visible in any order (20_memory R67); a
store all of whose pieces are visible leaves the buffer. -/
def State.drainPiece (s : State) (p : Nat) : Option State :=
  match s.cpu.buffer with
  | [] => none
  | st :: rest =>
    match st.units[p]? with
    | none => none
    | some cells =>
      let left := st.units.eraseIdx p
      some { s with
        storage := Memory.writeCells s.storage cells
        cpu := { s.cpu with buffer := if left.isEmpty then rest else ⟨left⟩ :: rest } }

/-- The active CPU fetches operand bytes of its next instruction (log 13). -/
def State.fetchEarly (s : State) (a n : Nat) : State :=
  let as := s.operand (BitVec.ofNat 64 a) n
  { s with cpu := { s.cpu with early := ⟨a, s.fetchNow as⟩ :: s.cpu.early } }

/-- The addresses of a store of the channel subsystem. -/
def channelAddresses (a : Nat) (bytes : List Byte) : List Nat := (List.range bytes.length).map (a + ·)

/-- The channel subsystem stores bytes into its buffer regions (60_exceptions R368). -/
def channelStore (a : Nat) (bytes : List Byte) (s : State) : Result :=
  let as := channelAddresses a bytes
  match s.channel with
  | none => .refused .inadmissibleMove
  | some buffers =>
    if as.all (fun x => buffers.any (·.has x)) && s.present as then
      requireNoText as s (.next { s with storage := Memory.writeCells s.storage (as.zip bytes) })
    else .refused .inadmissibleMove

/-- An admissible move, or a refusal. -/
def orInadmissible (o : Option State) : Result :=
  match o with
  | some s => .next s
  | none => .refused .inadmissibleMove

/-- One move. -/
def perform (m : Move) (s : State) : Result :=
  match m with
  | .execute => if s.cpu.isOperating then runActive s else .refused .inadmissibleMove
  | .drain p => orInadmissible (s.drainPiece p)
  | .fetchEarly a n =>
    if s.cpu.isOperating && s.present (s.operand (BitVec.ofNat 64 a) n) then .next (s.fetchEarly a n)
    else .refused .inadmissibleMove
  | .switchTo k => orInadmissible (s.switchTo k)
  | .channelStore a bytes => channelStore a bytes s

/-- An outcome whose next state has all stores of the active CPU visible. -/
def Result.drained (r : Result) : Result :=
  match r with
  | .next s => .next s.drainAll
  | .fault f => .fault f
  | .refused e => .refused e

/-- What happens when the schedule is empty: the active CPU executes one instruction and its stores become visible at
once; when it has stopped, its stores become visible and the first operating CPU becomes the active one; when there is
none, the run is over (70_reset_and_hazards R383; log 12, log 24). DESIGN CHOICE (log 33): a run that is over leaves the
stores that still wait in a buffer where they are, and only a move of the schedule makes them visible. -/
def runUnscheduled (s : State) : Result :=
  if s.cpu.isOperating then Result.drained (runActive s)
  else
    match s.others.findIdx? (·.isOperating) with
    | some k => orInadmissible (s.drainAll.switchTo k)
    | none => .fault .runOver

/-! ## Placing an instruction -/

/-- The state with bytes stored at pc as program text, so that the next step fetches them (log 7). -/
def State.placeInstruction (s : State) (bytes : List Byte) : State :=
  let as := s.operand s.cpu.psw.pc bytes.length
  let added := as.map fun a => (⟨a, 1⟩ : Region)
  { s with
    storage := Memory.writeCells s.storage (as.zip bytes)
    regions := added ++ s.regions
    schedule := []
    cpu := { s.cpu with
      status := .operating
      text := added ++ s.cpu.text
      endAddresses := s.cpu.endAddresses.filter (· != s.cpu.psw.pc) } }

end Sys2Proof.Machine
end

