-- ==== Sys2Proof/Machine/Step.lean ====
section
/-! DEFINITION. The step: the schedule's next move, or the active CPU's next instruction. -/

namespace Sys2Proof.Machine

/-- One step of the machine: the first move of the schedule; when there is none, one instruction of the active CPU
(00_scope R13; log 12). -/
def step (s : State) : Host.Outcome State Fault Refusal :=
  match s.schedule with
  | [] => runUnscheduled s
  | m :: rest => perform m { s with schedule := rest }

/-- The state with an instruction stored where the next step fetches it (log 7, log 27). -/
def State.withFetchWord (s : State) (nbits w : Nat) : State := s.placeInstruction (tableWordBytes nbits w)

end Sys2Proof.Machine
end

