-- ==== Sys2Proof/Safety.lean ====
section
/-! DEFINITION. What a state must satisfy for the rules to hold of it, in the terms the statements use. -/

namespace Sys2Proof.Machine

/-- Every CPU of the configuration. -/
def State.cpus (s : State) : List Cpu := s.cpu :: s.others

/-- The instruction address of a CPU is even and lies in its addressing mode (10_state R27). -/
def Cpu.pcSound (c : Cpu) : Prop := c.psw.pc.toNat % 2 = 0 ∧ c.psw.amode.wrap c.psw.pc = c.psw.pc

/-- The fault state of a CPU records its exception's own interruption code (60_exceptions R351). -/
def Cpu.recordSound (c : Cpu) : Prop := ∀ r, c.status = .faulted r → r.code = r.exception.code

/-- Every byte waiting in a store buffer is in STORAGE and outside all program text (60_exceptions R356, 20_memory
R77). -/
def State.buffersSound (s : State) : Prop :=
  ∀ c ∈ s.cpus, ∀ st ∈ c.buffer, ∀ piece ∈ st.units, ∀ x ∈ piece, s.present [x.1] = true ∧ s.hasText x.1 = false

/-- No buffered store has two bytes for one address (30_encoding R108: the bytes of an operand are distinct). -/
def State.buffersDistinct (s : State) : Prop := ∀ c ∈ s.cpus, ∀ st ∈ c.buffer, (st.units.flatten.map (·.1)).Nodup

/-- Facility bit 77 (MSA-X4) is one only if facility bit 76 (MSA-X3) is one (00_scope R3). -/
def State.facilitiesSound (s : State) : Prop := 77 ∈ s.facilities → 76 ∈ s.facilities

/-- The states the launch may give and every step keeps. -/
structure State.Sound (s : State) : Prop where
  /-- Storage is in canonical form. -/
  canonical : Memory.wf s.storage
  /-- The store buffers are sound. -/
  buffers : s.buffersSound
  /-- The bytes of each buffered store lie at different addresses. -/
  distinct : s.buffersDistinct
  /-- The instruction addresses are sound. -/
  pcs : ∀ c ∈ s.cpus, c.pcSound
  /-- The fault records are sound. -/
  records : ∀ c ∈ s.cpus, c.recordSound
  /-- The facility list is sound. -/
  facilities : s.facilitiesSound

/-! ## Well-formed program text -/

/-- The states that runs from a state pass through, itself among them (70_reset_and_hazards R381). -/
inductive Reaches (s : State) : State → Prop where
  /-- The state itself. -/
  | start : Reaches s s
  /-- One more step. -/
  | next {t u : State} : Reaches s t → step t = .next u → Reaches s u

/-- The active CPU would execute an instruction: it operates and pc is no end address (70_reset_and_hazards R383). -/
def State.executes (s : State) : Prop := s.cpu.status = .operating ∧ s.cpu.psw.pc ∉ s.cpu.endAddresses

/-- At pc, an even address, stands a well-formed instruction whose bytes are all program text (30_encoding R127). -/
def State.wellFormedHere (s : State) : Prop := ∃ bs, s.fetchInstruction = .ok bs ∧ wellFormedText bs = true

/-- At pc the active CPU meets an exception that the rules define (60_exceptions R350). -/
def State.exceptionHere (s : State) : Prop := ∃ t r, runActive s = .next t ∧ t.cpu.status = .faulted r

/-- The state's program text is well formed: so is every instruction that any CPU executes in any run from it
(30_encoding R127). -/
def State.WellFormedProgram (s : State) : Prop :=
  ∀ moves t, Reaches { s with schedule := moves } t → t.executes → t.wellFormedHere

/-- A launch is admissible: every run from it meets only well-formed instructions and exceptions that the rules define
(70_reset_and_hazards R381). -/
def State.Admissible (s : State) : Prop :=
  ∀ moves t, Reaches { s with schedule := moves } t → t.executes → t.wellFormedHere ∨ t.exceptionHere

/-- What a run never changes of a CPU: all but the general registers, the condition code, the instruction address, the
status, the store buffer and what was fetched early (10_state R26, R44; 60_exceptions R363, R364). -/
structure Cpu.SameFixed (c d : Cpu) : Prop where
  psw : { c.psw with cc := d.psw.cc, pc := d.psw.pc } = d.psw
  cr : c.cr = d.cr
  fpcr : c.fpcr = d.fpcr
  fpr : c.fpr = d.fpr
  ar : c.ar = d.ar
  prefixReg : c.prefixReg = d.prefixReg
  tlb : c.tlb = d.tlb
  text : c.text = d.text
  endAddresses : c.endAddresses = d.endAddresses

/-- What a run never changes of the configuration (00_scope R10, 10_state R39, R40, R43). -/
structure State.SameFixed (s t : State) : Prop where
  regions : s.regions = t.regions
  storageKeys : s.storageKeys = t.storageKeys
  referenceBits : s.referenceBits = t.referenceBits
  facilities : s.facilities = t.facilities
  wrappingKeys : s.wrappingKeys = t.wrappingKeys
  channel : s.channel = t.channel

/-! ## What an instruction leaves and what it answers -/

/-- pc <- IA + n, wrapped (10_state R27, 30_encoding R108). -/
def State.nextPc (s : State) (n : Nat) : Dword := s.cpu.psw.amode.wrap (s.cpu.psw.pc + BitVec.ofNat 64 n)

/-- A step lets the active CPU do `run`: as a move of the schedule its stores stay in the buffer, and with an empty schedule
they become visible in the same step (the model's choice, log 12). -/
def State.StepIs (s : State) (run : State → Result) : Prop :=
  (s.schedule = [] → step s = Result.drained (run s)) ∧
  ∀ rest, s.schedule = .execute :: rest → step s = run { s with schedule := rest }

/-- The frame of every instruction: all is as before but the general registers `written`, the condition code, the
instruction address, the CPU's status, storage and the store buffer (00_scope R13); what the operations of the model keep
for themselves, `early` and `draws`, may change. -/
structure State.Keeps (s t : State) (written : List Reg) : Prop where
  others : t.others = s.others
  schedule : t.schedule = s.schedule
  configuration : s.SameFixed t
  cpu : s.cpu.SameFixed t.cpu
  registers : ∀ r, r ∉ written → t.gr r = s.gr r

/-- Every byte of storage is as before, for this CPU and for every other agent. -/
structure State.KeepsStorage (s t : State) : Prop where
  storage : t.storage = s.storage
  buffer : t.cpu.buffer = s.cpu.buffer
  view : ∀ a, t.view a = s.view a

/-- What the CPU sees after storing `bytes` at `a`: they stand at the operand's addresses, and every other byte is as
before (20_memory R62, R73(1)). -/
structure State.Stores (s t : State) (a : Dword) (bytes : List Byte) : Prop where
  written : (s.operand a bytes.length).map t.view = bytes
  elsewhere : ∀ x, x ∉ s.operand a bytes.length → t.view x = s.view x

/-- An ordinary store: other agents see storage as it was, the store waits behind the earlier ones (20_memory R67,
R73(2), (3)). -/
structure State.StoresUnseen (s t : State) (a : Dword) (bytes : List Byte) : Prop where
  stores : s.Stores t a bytes
  storage : t.storage = s.storage
  buffer : t.cpu.buffer = s.cpu.buffer ++ [⟨pieces a ((s.operand a bytes.length).zip bytes)⟩]

/-- An interlocked store: every agent sees what this CPU sees (20_memory R68, R75). -/
structure State.StoresSeen (s t : State) (a : Dword) (bytes : List Byte) : Prop where
  stores : s.Stores t a bytes
  storage : ∀ x, Memory.read t.storage x = t.view x
  buffer : t.cpu.buffer = []

/-- `exec` answers a next state `t`: the CPU's status, its condition code and pc are these, `p t` holds, and nothing but
the general registers `written` is written. -/
def Ends (i : Instr) (s : State) (n : Nat) (written : List Reg) (cc : CondCode) (status : CpuStatus) (p : State → Prop) :
    Prop :=
  ∃ t, exec i s = .next t ∧ t.cpu.psw.pc = s.nextPc n ∧ t.cpu.psw.cc = cc ∧ t.cpu.status = status ∧
    s.Keeps t written ∧ p t

/-- The instruction completes, without an exception and without a store. -/
def Completes (i : Instr) (s : State) (n : Nat) (written : List Reg) (cc : CondCode) (p : State → Prop) : Prop :=
  Ends i s n written cc s.cpu.status fun t => s.KeepsStorage t ∧ p t

/-- The condition code of a signed result whose exact value is `x` (10_state R29, R30, R35): 3 when it is outside the
range of `w` bits. -/
def exactCode (w : Nat) (x : Int) : CondCode :=
  if x < -2 ^ (w - 1) ∨ 2 ^ (w - 1) ≤ x then 3#2 else if x = 0 then 0#2 else if x < 0 then 1#2 else 2#2

/-- The status after an instruction of `n` bytes with the exact signed result `x` of `w` bits: the fault state of a
fixed-point overflow when `x` is out of range and FPO_MASK is one, else as before (60_exceptions R350, R351, R352). -/
def State.statusAfter (s : State) (n w : Nat) (x : Int) : CpuStatus :=
  if (x < -2 ^ (w - 1) ∨ 2 ^ (w - 1) ≤ x) ∧ s.cpu.psw.fpoMask = true then
    .faulted { exception := .fixedPointOverflow, code := 0x0008#16, ia := s.cpu.psw.pc, ilen := some n }
  else s.cpu.status

/-- A signed operation of `w` bits with the exact result `x` completes; on an overflow it takes the interruption after
its results when FPO_MASK is one (60_exceptions R352, R361). -/
def CompletesSigned (i : Instr) (s : State) (n w : Nat) (written : List Reg) (x : Int) (p : State → Prop) : Prop :=
  Ends i s n written (exactCode w x) (s.statusAfter n w x) fun t => s.KeepsStorage t ∧ p t

/-- The high word of `r` holds `v` and the low word is as before (40_high_word_a R130). -/
def State.HighIs (s : State) (r : Reg) (v : Word) (t : State) : Prop := t.grh r = v ∧ t.grl r = s.grl r

/-- The low word of `r` holds `v` and the high word is as before (44_distinct_operands R200). -/
def State.LowIs (s : State) (r : Reg) (v : Word) (t : State) : Prop := t.grl r = v ∧ t.grh r = s.grh r

/-- The instruction is suppressed by an exception: the CPU is in the fault state that records it, all else is as before
(60_exceptions R350, R361). -/
def Suppressed (e : ProgramException) (n : Nat) (i : Instr) (s : State) : Prop :=
  ∃ t, exec i s = .next t ∧
    t.cpu.status = .faulted { exception := e, code := e.code, ia := s.cpu.psw.pc, ilen := some n } ∧
    t.cpu.psw.pc = s.cpu.psw.pc ∧ t.cpu.psw.cc = s.cpu.psw.cc ∧ s.Keeps t [] ∧ s.KeepsStorage t

/-- The condition code of a logical addition with these exact values (10_state R31): twice the carry, plus one for a
result that is not zero. -/
def logicalAddCode {w : Nat} (a b : BitVec w) : CondCode :=
  BitVec.ofNat 2 (2 * ((a.toNat + b.toNat) / 2 ^ w) + if (a.toNat + b.toNat) % 2 ^ w = 0 then 0 else 1)

/-- The condition code of a logical subtraction (10_state R32): 2 equal, 3 no borrow, 1 borrow. -/
def logicalSubCode {w : Nat} (a b : BitVec w) : CondCode :=
  if a.toNat = b.toNat then 2#2 else if a.toNat < b.toNat then 1#2 else 3#2

/-- The condition code of a comparison (10_state R33): 0 equal, 1 first operand low, 2 first operand high. -/
def comparisonCode (a b : Int) : CondCode := if a = b then 0#2 else if a < b then 1#2 else 2#2

/-- The condition code of a bitwise operation (10_state R34). -/
def zeroCode {w : Nat} (r : BitVec w) : CondCode := if r = 0#w then 0#2 else 1#2

/-- cond(M3, CC) by weights: 8 for CC 0, 4 for 1, 2 for 2, 1 for 3 (43_load_store_on_condition R190). -/
def maskSelects (m3 : Mask) (cc : CondCode) : Prop := m3.toNat / 2 ^ (3 - cc.toNat) % 2 = 1

/-- Bit `k`, from the left, of the register R1 after RISBHG (`half` 0) or RISBLG (`half` 1), as 41_high_word_b R156 gives
it. -/
def insertedBit (half : Nat) (old src : Dword) (i3 i4 i5 : Byte) (k : Nat) : Bool :=
  let start := 32 * half + i3.toNat % 32
  let last := 32 * half + i4.toNat % 32
  if 32 * half ≤ k ∧ k ≤ 32 * half + 31 then
    if (if start ≤ last then start ≤ k ∧ k ≤ last else k ≥ start ∨ k ≤ last) then src.getMsbD ((k + i5.toNat % 64) % 64)
    else if i4.getMsbD 0 = true then false
    else old.getMsbD k
  else old.getMsbD k

/-- The number of address bits of a mode (10_state R26). -/
def AMode.bits (m : AMode) : Nat :=
  match m with
  | .mode24 => 24
  | .mode31 => 31
  | .mode64 => 64

/-- What an instruction belongs to (00_scope R2, R5, R6, R7; 60_exceptions R354). -/
inductive InstrGroup where
  /-- The facilities that facility bit 45 indicates; an instruction of `length` bytes (60_exceptions R354(a)). -/
  | facility45 (length : Nat)
  /-- The base architecture: ASI and its kin, BCR (60_exceptions R354(b), (c)). -/
  | base
  /-- The floating-point extension facility (46_floating_point_extension R240). -/
  | floatingPoint
  /-- The message-security-assist extensions (47_message_security_assist R320). -/
  | cryptographic
  deriving DecidableEq, Repr

/-- What an instruction belongs to. -/
def instrGroup (i : Instr) : InstrGroup :=
  match i with
  | .ahhhr .. | .ahhlr .. | .alhhhr .. | .alhhlr .. | .chhr .. | .chlr .. | .clhhr .. | .clhlr .. | .shhhr ..
  | .shhlr .. | .slhhhr .. | .slhhlr .. | .locr .. | .locgr .. | .ark .. | .agrk .. | .alrk .. | .algrk .. | .nrk ..
  | .ngrk .. | .xrk .. | .xgrk .. | .ork .. | .ogrk .. | .srk .. | .sgrk .. | .slrk .. | .slgrk .. | .popcnt .. => .facility45 4
  | .aih .. | .alsih .. | .alsihn .. | .brcth .. | .chf .. | .cih .. | .clhf .. | .clih .. | .lbh .. | .lhh ..
  | .lfh .. | .llch .. | .llhh .. | .risbhg .. | .risblg .. | .stch .. | .sthh .. | .stfh .. | .laa .. | .laag ..
  | .laal .. | .laalg .. | .lan .. | .lang .. | .lax .. | .laxg .. | .lao .. | .laog .. | .lpd .. | .lpdg ..
  | .loc .. | .locg .. | .stoc .. | .stocg .. | .ahik .. | .aghik .. | .alhsik .. | .alghsik .. | .slak .. | .sllk ..
  | .srak .. | .srlk .. => .facility45 6
  | .asi .. | .agsi .. | .alsi .. | .algsi .. | .bcr_15_0 | .bcr_14_0 => .base
  | .cxlfbr .. | .cdlfbr .. | .celfbr .. | .cxlgbr .. | .cdlgbr .. | .celgbr .. | .clfxbr .. | .clfdbr ..
  | .clfebr .. | .clgxbr .. | .clgdbr .. | .clgebr .. | .srnmb .. | .cxfbra .. | .cdfbra .. | .cefbra .. | .cxgbra ..
  | .cdgbra .. | .cegbra .. | .cfxbra .. | .cfdbra .. | .cfebra .. | .cgxbra .. | .cgdbra .. | .cgebra ..
  | .fixbra .. | .fidbra .. | .fiebra .. | .ldxbra .. | .lexbra .. | .ledbra .. | .cxftr .. | .cdftr .. | .cxlftr ..
  | .cdlftr .. | .cxlgtr .. | .cdlgtr .. | .cfxtr .. | .cfdtr .. | .clfxtr .. | .clfdtr .. | .clgxtr .. | .clgdtr ..
  | .axtra .. | .adtra .. | .cxgtra .. | .cdgtra .. | .cgxtra .. | .cgdtra .. | .dxtra .. | .ddtra .. | .mxtra ..
  | .mdtra .. | .sxtra .. | .sdtra .. => .floatingPoint
  | .pckmo .. | .kmf .. | .kmctr .. | .kmo .. | .pcc .. => .cryptographic

/-- The state with everything replaced that no instruction with a meaning may depend on (10_state R25, R37, R38, R40, R41,
R43, 60_exceptions R364): the problem-state bit, the unused PSW fields, the control, floating-point, access, prefix and
wrapping-key registers, the TLB, the storage keys and the reference bits, all taken from `d`. -/
def State.withUnread (s d : State) : State :=
  { s with
    storageKeys := d.storageKeys
    referenceBits := d.referenceBits
    wrappingKeys := d.wrappingKeys
    cpu := { s.cpu with
      cr := d.cpu.cr, fpcr := d.cpu.fpcr, fpr := d.cpu.fpr, ar := d.cpu.ar, prefixReg := d.cpu.prefixReg
      tlb := d.cpu.tlb
      psw := { d.cpu.psw with
        cc := s.cpu.psw.cc, fpoMask := s.cpu.psw.fpoMask, amode := s.cpu.psw.amode, pc := s.cpu.psw.pc } } }

/-- An outcome with its next state changed. -/
def Result.mapNext (f : State → State) (r : Result) : Result :=
  match r with
  | .next s => .next (f s)
  | .fault x => .fault x
  | .refused x => .refused x

end Sys2Proof.Machine
end

