-- ==== Sys2Proof/Certificates/Slice0/Obligations.lean ====
section
/-! DEFINITION. The statements for the provers. The words they are written with (Completes, Keeps, Sound and so on) are
those of Sys2Proof/Safety.lean. -/

open Sys2Proof Sys2Proof.Machine

/-! ## Encoding -/

/-- Decoding an encoded instruction gives it back, every operand at every value (30_encoding R90 to R103, R127). -/
def Obligations.DecodeEncode : Prop := ∀ i : Instr, decode (encode i) = .ok i

/-- 30_encoding R91: bits 0-1 of the first byte give the length. -/
def Obligations.InstructionLength : Prop :=
  ∀ b : Byte, instructionLength b =
    if b.getMsbD 0 = false ∧ b.getMsbD 1 = false then 2 else if b.getMsbD 0 = true ∧ b.getMsbD 1 = true then 6 else 4

/-- Some words written out from the encodings of 30_encoding, one for each first byte (sanity). -/
def Obligations.DecodedWords : Prop :=
  decode [0xB9#8, 0xC8#8, 0x30#8, 0x12#8] = .ok (.ahhhr 1 2 3) ∧
  decode [0xCC#8, 0x46#8, 0xFF#8, 0xFF#8, 0xFF#8, 0xF8#8] = .ok (.brcth 4 0xFFFFFFF8#32) ∧
  decode [0xE3#8, 0x10#8, 0x30#8, 0x08#8, 0x00#8, 0xCA#8] = .ok (.lfh 1 8#20 0 3) ∧
  decode [0xEC#8, 0x12#8, 0x08#8, 0x8F#8, 0x00#8, 0x5D#8] = .ok (.risbhg 1 2 0x08#8 0x8F#8 0x00#8) ∧
  decode [0xEB#8, 0x14#8, 0x20#8, 0x08#8, 0x00#8, 0xF2#8] = .ok (.loc 1 8#20 2 4#4) ∧
  decode [0xEB#8, 0xFF#8, 0x20#8, 0x00#8, 0x00#8, 0x6E#8] = .ok (.alsi 0#20 2 0xFF#8) ∧
  decode [0xC8#8, 0x84#8, 0x60#8, 0x00#8, 0x70#8, 0x00#8] = .ok (.lpd 8 0#12 6 0#12 7) ∧
  decode [0x07#8, 0xE0#8] = .ok .bcr_14_0 ∧ decode [0xB2#8, 0xB8#8, 0x00#8, 0x07#8] = .ok (.srnmb 7#12 0)

/-- 30_encoding R115: the unused fields of RRE, RRF and RIE-d are not examined, which is D11 (log 31). -/
def Obligations.UnusedFieldsIgnored : Prop :=
  ∀ a b c u : Byte,
    (∀ op ∈ [0xCD#8, 0xDD#8, 0xCF#8, 0xDF#8, 0xE1#8, 0x28#8, 0x2A#8, 0x2B#8, 0x2C#8],
      decode [0xB9#8, op, u, a] = decode [0xB9#8, op, 0x00#8, a]) ∧
    (∀ op ∈ [0xC8#8, 0xD8#8, 0xCA#8, 0xDA#8, 0xC9#8, 0xD9#8, 0xCB#8, 0xDB#8, 0xF2#8, 0xE2#8, 0xF8#8, 0xE8#8, 0xFA#8,
        0xEA#8, 0xF4#8, 0xE4#8, 0xF7#8, 0xE7#8, 0xF6#8, 0xE6#8, 0xF9#8, 0xE9#8, 0xFB#8, 0xEB#8, 0x2D#8],
      decode [0xB9#8, op, u, a] = decode [0xB9#8, op, u &&& 0xF0#8, a]) ∧
    ∀ op ∈ [0xD8#8, 0xD9#8, 0xDA#8, 0xDB#8],
      decode [0xEC#8, a, b, c, u, op] = decode [0xEC#8, a, b, c, 0x00#8, op]

/-! ## The step -/

/-- A step runs the decoded instruction (00_scope R13): with an empty schedule its stores become visible at once (the
model's choice, log 12); as a move of the schedule they stay in the buffer. -/
def Obligations.StepRunsDecoded : Prop :=
  ∀ (s : State) (bs : List Byte) (i : Instr), s.cpu.status = .operating → s.cpu.psw.pc ∉ s.cpu.endAddresses →
    s.fetchInstruction = .ok bs → decode bs = .ok i → s.StepIs (exec i)

/-- An instruction whose encoding stands at an even pc in program text is the one a step runs (20_memory R64,
30_encoding R91). That its bytes stand at wrapped addresses is the model's reading of 10_state R27 with 30_encoding R108
(log 28), and that its stores become visible at once with an empty schedule is the model's choice (log 12). -/
def Obligations.ProgramTextRuns : Prop :=
  ∀ (s : State) (i : Instr), s.cpu.status = .operating → s.cpu.psw.pc ∉ s.cpu.endAddresses →
    s.cpu.psw.pc.toNat % 2 = 0 →
    (∀ a ∈ s.operand s.cpu.psw.pc (encode i).length, s.present [a] = true ∧ s.cpu.hasText a = true) →
    (s.operand s.cpu.psw.pc (encode i).length).map (Memory.read s.storage) = encode i → s.StepIs (exec i)

/-- An instruction fetch that cannot be made: an odd pc is a specification exception, and with an even pc a byte of the
instruction outside STORAGE or outside the CPU's program text is an addressing exception; nothing else changes
(20_memory R66; 60_exceptions R350, R355, R356, R360), but that with an empty schedule buffered stores become visible (the
model's choice, log 12). ILEN is recorded when the first byte, which gives it, was fetched (30_encoding R91); that none is
recorded otherwise is the model's choice (log 9). That the bytes stand at wrapped addresses is the model's reading of
10_state R27 with 30_encoding R108 (log 28). -/
def Obligations.FetchExceptions : Prop :=
  ∀ s : State, s.cpu.status = .operating → s.cpu.psw.pc ∉ s.cpu.endAddresses →
    let stops : ProgramException → Option Nat → Prop := fun e ilen => s.StepIs fun u => .next
      { u with cpu := { u.cpu with
          status := .faulted { exception := e, code := e.code, ia := s.cpu.psw.pc, ilen := ilen } } }
    let absent : Nat → Prop := fun a => s.present [a] = false ∨ s.cpu.hasText a = false
    let first := (s.cpu.psw.amode.wrap s.cpu.psw.pc).toNat
    let ilen := instructionLength (Memory.read s.storage first)
    (s.cpu.psw.pc.toNat % 2 = 1 → stops .specification none) ∧
    (s.cpu.psw.pc.toNat % 2 = 0 → absent first → stops .addressing none) ∧
    (s.cpu.psw.pc.toNat % 2 = 0 → ¬ absent first → (∃ a ∈ s.operand s.cpu.psw.pc ilen, absent a) →
      stops .addressing (some ilen))

/-- A CPU whose pc is an end address stops in the finished state; nothing else changes (70_reset_and_hazards R383), but
that with an empty schedule buffered stores become visible (the model's choice, log 12). -/
def Obligations.EndAddressFinishes : Prop :=
  ∀ s : State, s.cpu.status = .operating → s.cpu.psw.pc ∈ s.cpu.endAddresses →
    s.StepIs fun u => .next { u with cpu := { u.cpu with status := .finished } }

/-- The run is over exactly when every CPU is finished or faulted (70_reset_and_hazards R383). That a step then answers a
fault, and that the schedule comes first, are the model's choices (log 24, log 12). -/
def Obligations.RunOver : Prop :=
  ∀ s : State, s.schedule = [] → (step s = .fault .runOver ↔ ∀ c ∈ s.cpus, c.status ≠ .operating)

/-- An operation code without a row is refused (30_encoding R117; log 18), but for BCR with a zero R2 and a mask of 0 to
13, which only advances pc (48_miscellaneous R332); that the model accepts it is the model's choice (log 17). -/
def Obligations.UnknownCodes : Prop :=
  (∀ (s : State) (bs : List Byte) (why : Rejection), s.cpu.status = .operating →
    s.cpu.psw.pc ∉ s.cpu.endAddresses → s.fetchInstruction = .ok bs → decode bs = .error why →
      (∀ m : BitVec 4, m.toNat ≤ 13 → bs = [0x07#8, m ++ 0#4] → s.StepIs bcrNoOperation) ∧
      ((∀ m : BitVec 4, m.toNat ≤ 13 → bs ≠ [0x07#8, m ++ 0#4]) →
        s.StepIs fun _ => .refused .unknownOperationCode)) ∧
  ∀ s : State, ∃ t, bcrNoOperation s = .next t ∧ t.cpu.psw.pc = s.nextPc 2 ∧ t.cpu.psw.cc = s.cpu.psw.cc ∧
    t.cpu.status = s.cpu.status ∧ s.Keeps t [] ∧ s.KeepsStorage t

/-! ## What every step keeps -/

/-- Every step keeps the sound states: storage canonical, buffered stores in STORAGE and outside program text, pc even
and in its addressing mode, fault records with their own code, facility bit 77 only with 76. Sound is the model's own
invariant, built from the rules its fields cite. -/
def Obligations.StepKeepsSound : Prop := ∀ s t : State, s.Sound → step s = .next t → t.Sound

/-- The state after reset is sound; the reset values themselves are the model's choice (log 1, log 4, log 5, log 7). -/
def Obligations.ResetSound : Prop := State.reset.Sound

/-- Program text is immutable during a run (20_memory R77). -/
def Obligations.ProgramTextImmutable : Prop :=
  ∀ s t : State, s.Sound → step s = .next t →
    ∀ a, s.hasText a = true → t.hasText a = true ∧ Memory.read t.storage a = Memory.read s.storage a

/-- No instruction writes what the rules call unwritten: the PSW but for CC and pc, the control, floating-point, access
and prefix registers, the TLB, and the configuration; no instruction touches another CPU (10_state R26, R44; 00_scope
R13). -/
def Obligations.InstructionFrame : Prop :=
  ∀ (i : Instr) (s t : State), exec i s = .next t →
    s.cpu.SameFixed t.cpu ∧ s.SameFixed t ∧ t.others = s.others ∧ t.schedule = s.schedule

/-- No step changes the configuration or the number of CPUs (10_state R39, R40, R43; 60_exceptions R367). -/
def Obligations.ConfigurationKept : Prop :=
  ∀ s t : State, step s = .next t → s.SameFixed t ∧ t.cpus.length = s.cpus.length ∧ ∀ a, t.hasText a = s.hasText a

/-- The fault state and the finished state are terminal: a CPU in one keeps everything, but that its buffered stores may
still become visible (60_exceptions R362, 70_reset_and_hazards R383). -/
def Obligations.StoppedIsTerminal : Prop :=
  ∀ s t : State, step s = .next t → ∀ c ∈ s.cpus, c.status ≠ .operating →
    ∃ d ∈ t.cpus, { d with buffer := c.buffer } = c

/-- No instruction reads the problem-state bit, the unused PSW fields, the control, floating-point, access, prefix or
wrapping-key registers, the TLB, the storage keys or the reference bits: replacing them all commutes with execution
(60_exceptions R364; 10_state R37, R38, R40, R41, R43; 47_message_security_assist R320). -/
def Obligations.UnreadState : Prop :=
  ∀ (i : Instr) (s d : State), exec i (s.withUnread d) = Result.mapNext (fun t => t.withUnread d) (exec i s)

/-! ## Storage and ordering -/

/-- Storage operands are big-endian (20_memory R62). -/
def Obligations.BigEndian : Prop :=
  ∀ (n w : Nat) (v : BitVec w), (bytesOf n v).length = n ∧
    (∀ i, (h : i < (bytesOf n v).length) → (bytesOf n v)[i] = v.extractLsb' (8 * (n - 1 - i)) 8) ∧
    (w = 8 * n → beValue (bytesOf n v) = v.toNat)

/-- Each byte address of an operand wraps by the addressing mode, and so do pc and a branch target (30_encoding R108). -/
def Obligations.AddressesWrap : Prop :=
  ∀ (s : State) (a : Dword) (n : Nat) (i : Word),
    (s.cpu.psw.amode.wrap a).toNat = a.toNat % 2 ^ s.cpu.psw.amode.bits ∧
    s.operand a n = (List.range n).map (fun i => (a.toNat + i) % 2 ^ s.cpu.psw.amode.bits) ∧
    (s.nextPc n).toNat = (s.cpu.psw.pc.toNat + n) % 2 ^ s.cpu.psw.amode.bits ∧
    ((s.branchTarget i).toNat : Int) = (s.cpu.psw.pc.toNat + 2 * i.toInt) % 2 ^ s.cpu.psw.amode.bits

/-- Address generation (30_encoding R104 to R107): a base or index field of zero is no register, the displacement of RXY,
RSY and SIY is signed and that of SSF unsigned, and the sum wraps. -/
def Obligations.AddressGeneration : Prop :=
  ∀ (s : State) (x b : Reg) (d : Disp20) (e : Disp12),
    let part : Reg → Int := fun r => if r = 0 then 0 else ((s.gr r).toNat : Int)
    ((s.addressRxy d x b).toNat : Int) = (part x + part b + d.toInt) % 2 ^ s.cpu.psw.amode.bits ∧
    ((s.addressRsy d b).toNat : Int) = (part b + d.toInt) % 2 ^ s.cpu.psw.amode.bits ∧
    ((s.addressSsf e b).toNat : Int) = (part b + e.toNat) % 2 ^ s.cpu.psw.amode.bits ∧
    (s.shiftAmount d b : Int) = (part b + d.toInt) % 64

/-- In the 24- and 31-bit modes the high words of the registers do not enter an address (30_encoding R105,
70_reset_and_hazards R385). -/
def Obligations.HighWordsOutsideAddresses : Prop :=
  ∀ (s : State) (r x b : Reg) (v : Word) (d : Disp20) (e : Disp12), s.cpu.psw.amode ≠ .mode64 →
    (s.setGrh r v).addressRxy d x b = s.addressRxy d x b ∧ (s.setGrh r v).addressRsy d b = s.addressRsy d b ∧
    (s.setGrh r v).addressSsf e b = s.addressSsf e b

/-- A fetch sees what the CPU sees now when its operand is on its integral boundary or nothing was fetched early (20_memory
R67, R73(1)); an operand off its boundary is fetched byte by byte, each byte as it is now or as it was fetched early
(early fetches are the model's form of the open order, log 13). -/
def Obligations.OperandFetch : Prop :=
  ∀ (s : State) (a : Dword) (n : Nat),
    (aligned a n = true → s.fetchOperand a n = s.fetchNow (s.operand a n)) ∧
    (s.cpu.early = [] → s.fetchOperand a n = s.fetchNow (s.operand a n) ∧
      s.fetchForUpdate a n = s.fetchNow (s.operand a n) ∧ s.fetchBlock a n = s.fetchNow (s.operand a n)) ∧
    (s.fetchOperand a n).length = n ∧
    ∀ i, (h : i < (s.fetchOperand a n).length) → ∃ x, (s.operand a n)[i]? = some x ∧
      ((s.fetchOperand a n)[i] = s.view x ∨
        ∃ e ∈ s.cpu.early, e.address = x ∧ e.bytes = [(s.fetchOperand a n)[i]])

/-- A load sees the CPU's own latest store, in whole and in part (20_memory R63, R73(1)). -/
def Obligations.LoadSeesStore : Prop :=
  ∀ (s : State) (r1 q x b : Reg) (d : Disp20), 45 ∈ s.facilities →
    s.present (s.operand (s.addressRxy d x b) 4) = true →
    (∀ a ∈ s.operand (s.addressRxy d x b) 4, s.hasText a = false) →
      ∃ t, exec (.stfh r1 d x b) s = .next t ∧
        (∃ u, exec (.lfh q d x b) t = .next u ∧ u.grh q = s.grh r1) ∧
        (∃ u, exec (.llhh q d x b) t = .next u ∧ u.grh q = s.grh r1 >>> 16) ∧
        ∃ u, exec (.llch q d x b) t = .next u ∧ u.grh q = s.grh r1 >>> 24

/-- One piece of the oldest buffered store becomes visible: it is written to storage, no other byte of storage changes,
and the CPU itself sees what it saw (20_memory R67, R73(1), (2)); moves are the model's form of the open order (log 12). -/
def Obligations.DrainOnePiece : Prop :=
  ∀ (s : State) (p : Nat) (rest : List Move) (st : BufferedStore) (older : List BufferedStore)
    (cells : List Host.Cell), s.Sound → s.schedule = .drain p :: rest → s.cpu.buffer = st :: older →
    st.units[p]? = some cells →
      ∃ t, step s = .next t ∧ (∀ c ∈ cells, Memory.read t.storage c.1 = c.2) ∧
        (∀ a, (∀ c ∈ cells, c.1 ≠ a) → Memory.read t.storage a = Memory.read s.storage a) ∧
        (∀ a, t.view a = s.view a) ∧ { t.cpu with buffer := s.cpu.buffer } = s.cpu ∧ t.others = s.others ∧
        s.SameFixed t

/-- Serialization (20_memory R74; 48_miscellaneous R330, R331): BCR 15,0, and BCR 14,0 with facility bit 45, make every
store of the CPU visible to every agent; nothing else changes but pc. That this is all that serialization does is the
model's reading (log 15). -/
def Obligations.BcrSerializes : Prop :=
  ∀ s : State, s.Sound →
    (∀ i, i = .bcr_15_0 ∨ i = .bcr_14_0 ∧ 45 ∈ s.facilities →
      Ends i s 2 [] s.cpu.psw.cc s.cpu.status fun t =>
        t.cpu.buffer = [] ∧ ∀ a, Memory.read t.storage a = s.view a ∧ t.view a = s.view a) ∧
    (45 ∉ s.facilities → Completes .bcr_14_0 s 2 [] s.cpu.psw.cc fun _ => True)

/-- The channel subsystem stores into its buffer regions, and nothing else changes (60_exceptions R368); a store outside
them, or without a channel subsystem, is no move (the model's choice, log 12, log 29). -/
def Obligations.ChannelStores : Prop :=
  ∀ (s : State) (a : Nat) (bytes : List Byte) (rest : List Move), s.Sound →
    s.schedule = .channelStore a bytes :: rest →
      (s.channel = none → step s = .refused .inadmissibleMove) ∧
      ∀ buffers, s.channel = some buffers →
        ((∃ i < bytes.length, buffers.any (·.has (a + i)) = false) → step s = .refused .inadmissibleMove) ∧
        ((∀ i < bytes.length, buffers.any (·.has (a + i)) = true ∧ s.present [a + i] = true ∧
            s.hasText (a + i) = false) →
          ∃ t, step s = .next t ∧ (∀ i, (h : i < bytes.length) → Memory.read t.storage (a + i) = bytes[i]) ∧
            (∀ x, x < a ∨ a + bytes.length ≤ x → Memory.read t.storage x = Memory.read s.storage x) ∧
            t.cpus = s.cpus ∧ s.SameFixed t)

/-! ## Exceptions -/

/-- What taking an exception does: the fault state records the exception, its code, IA and ILEN, and nothing else changes
(60_exceptions R350, R351). -/
def Obligations.TakingAnException : Prop :=
  (∀ (s : State) (e : ProgramException) (ia : Dword) (ilen : Option Nat),
    (s.takeException e ia ilen).cpu.status =
      .faulted { exception := e, code := e.code, ia := ia, ilen := ilen } ∧
    ({ s.takeException e ia ilen with
        cpu := { (s.takeException e ia ilen).cpu with status := s.cpu.status } } : State) = s) ∧
  ProgramException.code .operation = 0x0001#16 ∧ ProgramException.code .privilegedOperation = 0x0002#16 ∧
  ProgramException.code .protection = 0x0004#16 ∧ ProgramException.code .addressing = 0x0005#16 ∧
  ProgramException.code .specification = 0x0006#16 ∧ ProgramException.code .data = 0x0007#16 ∧
  ProgramException.code .fixedPointOverflow = 0x0008#16 ∧ ProgramException.code .monitorEvent = 0x0040#16

/-- With facility bit 45 zero, every instruction of the facilities it indicates is an operation exception (60_exceptions
R354(a)). -/
def Obligations.OperationException : Prop :=
  ∀ (i : Instr) (s : State) (n : Nat), instrGroup i = .facility45 n → 45 ∉ s.facilities →
    Suppressed .operation n i s

/-- The specification exceptions of the interlocked-access facility (60_exceptions R355, cases 1 to 4; 20_memory R65). -/
def Obligations.SpecificationException : Prop :=
  ∀ (s : State) (r1 r3 b2 b1 : Reg) (d2 : Disp20) (e1 e2 : Disp12), 45 ∈ s.facilities →
    ((s.addressRsy d2 b2).toNat % 4 ≠ 0 →
      ∀ i ∈ [Instr.laa r1 r3 d2 b2, .laal r1 r3 d2 b2, .lan r1 r3 d2 b2, .lax r1 r3 d2 b2, .lao r1 r3 d2 b2],
        Suppressed .specification 6 i s) ∧
    ((s.addressRsy d2 b2).toNat % 8 ≠ 0 →
      ∀ i ∈ [Instr.laag r1 r3 d2 b2, .laalg r1 r3 d2 b2, .lang r1 r3 d2 b2, .laxg r1 r3 d2 b2, .laog r1 r3 d2 b2],
        Suppressed .specification 6 i s) ∧
    (r3.val % 2 = 1 ∨ (s.addressSsf e1 b1).toNat % 4 ≠ 0 ∨ (s.addressSsf e2 b2).toNat % 4 ≠ 0 →
      Suppressed .specification 6 (.lpd r3 e1 b1 e2 b2) s) ∧
    (r3.val % 2 = 1 ∨ (s.addressSsf e1 b1).toNat % 8 ≠ 0 ∨ (s.addressSsf e2 b2).toNat % 8 ≠ 0 →
      Suppressed .specification 6 (.lpdg r3 e1 b1 e2 b2) s)

/-- An operand with a byte outside STORAGE is an addressing exception (60_exceptions R356): the RXY instructions, the
conditional ones whose condition holds, the interlocked ones and ASI and its kin. -/
def Obligations.AddressingException : Prop :=
  ∀ (s : State) (r1 r3 x2 b2 : Reg) (d2 : Disp20) (m3 : Mask) (i2 : Byte), 45 ∈ s.facilities →
    let a := s.addressRxy d2 x2 b2
    let c := s.addressRsy d2 b2
    (s.present (s.operand a 1) = false →
      ∀ i ∈ [Instr.lbh r1 d2 x2 b2, .llch r1 d2 x2 b2, .stch r1 d2 x2 b2], Suppressed .addressing 6 i s) ∧
    (s.present (s.operand a 2) = false →
      ∀ i ∈ [Instr.lhh r1 d2 x2 b2, .llhh r1 d2 x2 b2, .sthh r1 d2 x2 b2], Suppressed .addressing 6 i s) ∧
    (s.present (s.operand a 4) = false →
      ∀ i ∈ [Instr.lfh r1 d2 x2 b2, .stfh r1 d2 x2 b2, .chf r1 d2 x2 b2, .clhf r1 d2 x2 b2],
        Suppressed .addressing 6 i s) ∧
    (s.present (s.operand c 4) = false →
      (∀ i ∈ [Instr.asi d2 b2 i2, .alsi d2 b2 i2], Suppressed .addressing 6 i s) ∧
      (maskSelects m3 s.cpu.psw.cc → ∀ i ∈ [Instr.loc r1 d2 b2 m3, .stoc r1 d2 b2 m3], Suppressed .addressing 6 i s) ∧
      (c.toNat % 4 = 0 →
        ∀ i ∈ [Instr.laa r1 r3 d2 b2, .laal r1 r3 d2 b2, .lan r1 r3 d2 b2, .lax r1 r3 d2 b2, .lao r1 r3 d2 b2],
          Suppressed .addressing 6 i s)) ∧
    (s.present (s.operand c 8) = false →
      (∀ i ∈ [Instr.agsi d2 b2 i2, .algsi d2 b2 i2], Suppressed .addressing 6 i s) ∧
      (maskSelects m3 s.cpu.psw.cc →
        ∀ i ∈ [Instr.locg r1 d2 b2 m3, .stocg r1 d2 b2 m3], Suppressed .addressing 6 i s) ∧
      (c.toNat % 8 = 0 →
        ∀ i ∈ [Instr.laag r1 r3 d2 b2, .laalg r1 r3 d2 b2, .lang r1 r3 d2 b2, .laxg r1 r3 d2 b2, .laog r1 r3 d2 b2],
          Suppressed .addressing 6 i s))

/-- LPD or LPDG with one operand outside STORAGE loads neither register (60_exceptions R356). -/
def Obligations.PairAddressingException : Prop :=
  ∀ (s : State) (r3 b1 b2 : Reg) (d1 d2 : Disp12), 45 ∈ s.facilities → r3.val % 2 = 0 →
    let a1 := s.addressSsf d1 b1
    let a2 := s.addressSsf d2 b2
    (a1.toNat % 4 = 0 → a2.toNat % 4 = 0 →
      s.present (s.operand a1 4) = false ∨ s.present (s.operand a2 4) = false →
        Suppressed .addressing 6 (.lpd r3 d1 b1 d2 b2) s) ∧
    (a1.toNat % 8 = 0 → a2.toNat % 8 = 0 →
      s.present (s.operand a1 8) = false ∨ s.present (s.operand a2 8) = false →
        Suppressed .addressing 6 (.lpdg r3 d1 b1 d2 b2) s)

/-- A store that overlaps program text is refused (20_memory R77; log 16); that an operand outside STORAGE or off a required
boundary is reported first is the model's choice (log 32). -/
def Obligations.StoreIntoTextRefused : Prop :=
  ∀ (s : State) (r1 r3 x2 b2 : Reg) (d2 : Disp20) (m3 : Mask) (i2 : Byte), 45 ∈ s.facilities →
    let refused : Dword → Nat → List Instr → Prop := fun a n is =>
      s.present (s.operand a n) = true → (∃ x ∈ s.operand a n, s.hasText x = true) →
        ∀ i ∈ is, exec i s = .refused .storeIntoProgramText
    let a := s.addressRxy d2 x2 b2
    let c := s.addressRsy d2 b2
    refused a 1 [.stch r1 d2 x2 b2] ∧ refused a 2 [.sthh r1 d2 x2 b2] ∧ refused a 4 [.stfh r1 d2 x2 b2] ∧
    refused c 4 [.asi d2 b2 i2, .alsi d2 b2 i2] ∧ refused c 8 [.agsi d2 b2 i2, .algsi d2 b2 i2] ∧
    (maskSelects m3 s.cpu.psw.cc → refused c 4 [.stoc r1 d2 b2 m3] ∧ refused c 8 [.stocg r1 d2 b2 m3]) ∧
    (c.toNat % 4 = 0 →
      refused c 4 [.laa r1 r3 d2 b2, .laal r1 r3 d2 b2, .lan r1 r3 d2 b2, .lax r1 r3 d2 b2, .lao r1 r3 d2 b2]) ∧
    (c.toNat % 8 = 0 →
      refused c 8 [.laag r1 r3 d2 b2, .laalg r1 r3 d2 b2, .lang r1 r3 d2 b2, .laxg r1 r3 d2 b2, .laog r1 r3 d2 b2])

/-- The 55 floating-point-extension instructions (46_floating_point_extension R241) and PCKMO, KMF, KMCTR, KMO and PCC
(47_message_security_assist R320) are refused, each by its kind, and no well-formed text holds one (30_encoding R127). That
the five are refused in every state, in the problem state and with facility bits 76 and 77 zero too, is the model's choice
(log 20). -/
def Obligations.UndefinedRefused : Prop :=
  ∀ (i : Instr) (s : State),
    (instrGroup i = .floatingPoint → (∃ m, exec i s = .refused (.floatingPointUndefined m)) ∧ i.wellFormed = false) ∧
    (instrGroup i = .cryptographic → (∃ m, exec i s = .refused (.cryptographicUndefined m)) ∧ i.wellFormed = false)

/-! ## The high-word facility -/

/-- Signed addition and subtraction into a high word (40_high_word_a R131 to R133, 41_high_word_b R162, R163;
60_exceptions R352). -/
def Obligations.SignedHigh : Prop :=
  ∀ (s : State) (r1 r2 r3 : Reg) (i2 : Word), 45 ∈ s.facilities →
    let result : Instr → Nat → Int → Prop := fun i n x =>
      CompletesSigned i s n 32 [r1] x (s.HighIs r1 (BitVec.ofInt 32 x))
    result (.ahhhr r1 r2 r3) 4 ((s.grh r2).toInt + (s.grh r3).toInt) ∧
    result (.ahhlr r1 r2 r3) 4 ((s.grh r2).toInt + (s.grl r3).toInt) ∧
    result (.aih r1 i2) 6 ((s.grh r1).toInt + i2.toInt) ∧
    result (.shhhr r1 r2 r3) 4 ((s.grh r2).toInt - (s.grh r3).toInt) ∧
    result (.shhlr r1 r2 r3) 4 ((s.grh r2).toInt - (s.grl r3).toInt)

/-- Logical addition and subtraction into a high word (40_high_word_a R134 to R137, 41_high_word_b R164, R165). -/
def Obligations.LogicalHigh : Prop :=
  ∀ (s : State) (r1 r2 r3 : Reg) (i2 : Word), 45 ∈ s.facilities →
    let sum : Instr → Nat → Word → Word → Prop := fun i n a b =>
      Completes i s n [r1] (logicalAddCode a b) (s.HighIs r1 (BitVec.ofNat 32 (a.toNat + b.toNat)))
    let difference : Instr → Word → Word → Prop := fun i a b =>
      Completes i s 4 [r1] (logicalSubCode a b) (s.HighIs r1 (BitVec.ofInt 32 ((a.toNat : Int) - b.toNat)))
    sum (.alhhhr r1 r2 r3) 4 (s.grh r2) (s.grh r3) ∧ sum (.alhhlr r1 r2 r3) 4 (s.grh r2) (s.grl r3) ∧
    sum (.alsih r1 i2) 6 (s.grh r1) i2 ∧
    difference (.slhhhr r1 r2 r3) (s.grh r2) (s.grh r3) ∧ difference (.slhhlr r1 r2 r3) (s.grh r2) (s.grl r3)

/-- ALSIHN adds and leaves the condition code (40_high_word_a R137). -/
def Obligations.AlsihnKeepsCode : Prop :=
  ∀ (s : State) (r1 : Reg) (i2 : Word), 45 ∈ s.facilities →
    Completes (.alsihn r1 i2) s 6 [r1] s.cpu.psw.cc
      (s.HighIs r1 (BitVec.ofNat 32 ((s.grh r1).toNat + i2.toNat)))

/-- BRCTH counts down in the high word and branches when the count is not zero (40_high_word_a R138, 30_encoding R111). -/
def Obligations.BranchOnCountHigh : Prop :=
  ∀ (s : State) (r1 : Reg) (ri2 : Word), 45 ∈ s.facilities →
    ∃ t, exec (.brcth r1 ri2) s = .next t ∧
      s.HighIs r1 (BitVec.ofInt 32 ((s.grh r1).toNat - 1)) t ∧
      (s.grh r1 = 1#32 → t.cpu.psw.pc = s.nextPc 6) ∧
      (s.grh r1 ≠ 1#32 →
        (t.cpu.psw.pc.toNat : Int) = (s.cpu.psw.pc.toNat + 2 * ri2.toInt) % 2 ^ s.cpu.psw.amode.bits) ∧
      t.cpu.psw.cc = s.cpu.psw.cc ∧ t.cpu.status = s.cpu.status ∧ s.Keeps t [r1] ∧ s.KeepsStorage t

/-- The comparisons with a register or an immediate (40_high_word_a R139, R140, R142 to R144, R146; 10_state R33). -/
def Obligations.CompareHigh : Prop :=
  ∀ (s : State) (r1 r2 : Reg) (i2 : Word), 45 ∈ s.facilities →
    let compared : Instr → Nat → Int → Int → Prop := fun i n a b =>
      Completes i s n [] (comparisonCode a b) fun _ => True
    compared (.chhr r1 r2) 4 (s.grh r1).toInt (s.grh r2).toInt ∧
    compared (.chlr r1 r2) 4 (s.grh r1).toInt (s.grl r2).toInt ∧
    compared (.cih r1 i2) 6 (s.grh r1).toInt i2.toInt ∧
    compared (.clhhr r1 r2) 4 (s.grh r1).toNat (s.grh r2).toNat ∧
    compared (.clhlr r1 r2) 4 (s.grh r1).toNat (s.grl r2).toNat ∧
    compared (.clih r1 i2) 6 (s.grh r1).toNat i2.toNat

/-- The comparisons with a word in storage (40_high_word_a R141, R145). -/
def Obligations.CompareHighStorage : Prop :=
  ∀ (s : State) (r1 x2 b2 : Reg) (d2 : Disp20), 45 ∈ s.facilities →
    s.present (s.operand (s.addressRxy d2 x2 b2) 4) = true →
    let m := BitVec.ofNat 32 (beValue (s.fetchOperand (s.addressRxy d2 x2 b2) 4))
    Completes (.chf r1 d2 x2 b2) s 6 [] (comparisonCode (s.grh r1).toInt m.toInt) (fun _ => True) ∧
    Completes (.clhf r1 d2 x2 b2) s 6 [] (comparisonCode (s.grh r1).toNat m.toNat) fun _ => True

/-- The loads into a high word (41_high_word_b R150 to R155). -/
def Obligations.LoadHigh : Prop :=
  ∀ (s : State) (r1 x2 b2 : Reg) (d2 : Disp20), 45 ∈ s.facilities →
    let a := s.addressRxy d2 x2 b2
    let fetched : Nat → Nat := fun n => beValue (s.fetchOperand a n)
    let loaded : Instr → Int → Prop := fun i v =>
      Completes i s 6 [r1] s.cpu.psw.cc (s.HighIs r1 (BitVec.ofInt 32 v))
    (s.present (s.operand a 1) = true →
      loaded (.lbh r1 d2 x2 b2) (BitVec.ofNat 8 (fetched 1)).toInt ∧ loaded (.llch r1 d2 x2 b2) (fetched 1)) ∧
    (s.present (s.operand a 2) = true →
      loaded (.lhh r1 d2 x2 b2) (BitVec.ofNat 16 (fetched 2)).toInt ∧ loaded (.llhh r1 d2 x2 b2) (fetched 2)) ∧
    (s.present (s.operand a 4) = true → loaded (.lfh r1 d2 x2 b2) (fetched 4))

/-- 41_high_word_b R156, R157, R158: bit by bit, RISBHG and RISBLG insert the selected bits of the rotated register. That
the wrap-around stays inside the half, R156 derives: it "follows from" the two sentences by which the other 32 bits "always
remain unchanged". That the unnamed bits of I3, I4 and I5 are ignored is D10 of 30_encoding R116 (log 31). -/
def Obligations.RotateThenInsert : Prop :=
  ∀ (s : State) (r1 r2 : Reg) (i3 i4 i5 : Byte), 45 ∈ s.facilities →
    Completes (.risbhg r1 r2 i3 i4 i5) s 6 [r1] s.cpu.psw.cc (fun t => ∀ k < 64,
      (t.gr r1).getMsbD k = insertedBit 0 (s.gr r1) (s.gr r2) i3 i4 i5 k) ∧
    Completes (.risblg r1 r2 i3 i4 i5) s 6 [r1] s.cpu.psw.cc fun t => ∀ k < 64,
      (t.gr r1).getMsbD k = insertedBit 1 (s.gr r1) (s.gr r2) i3 i4 i5 k

/-- 41_high_word_b R166: the nine pseudo-instructions, by the encodings 30_encoding R123 gives them. Their effects R166
derives: "The effects are not stated by the source; each follows from rule R156", with R157 and R158. -/
def Obligations.ExtendedMnemonics : Prop :=
  ∀ (s : State) (r1 r2 : Reg), 45 ∈ s.facilities →
    let high : Byte → Byte → Word → Prop := fun i3 i5 v =>
      Completes (.risbhg r1 r2 i3 0x9F#8 i5) s 6 [r1] s.cpu.psw.cc (s.HighIs r1 v)
    let low : Byte → Byte → Word → Prop := fun i3 i5 v =>
      Completes (.risblg r1 r2 i3 0x9F#8 i5) s 6 [r1] s.cpu.psw.cc (s.LowIs r1 v)
    high 0x00#8 0x00#8 (s.grh r2) ∧ high 0x00#8 0x20#8 (s.grl r2) ∧ low 0x00#8 0x20#8 (s.grh r2) ∧
    high 0x10#8 0x00#8 (s.grh r2 &&& 0xFFFF#32) ∧ high 0x10#8 0x20#8 (s.grl r2 &&& 0xFFFF#32) ∧
    low 0x10#8 0x20#8 (s.grh r2 &&& 0xFFFF#32) ∧ high 0x18#8 0x00#8 (s.grh r2 &&& 0xFF#32) ∧
    high 0x18#8 0x20#8 (s.grl r2 &&& 0xFF#32) ∧ low 0x18#8 0x20#8 (s.grh r2 &&& 0xFF#32)

/-- The stores from a high word (41_high_word_b R150, R159 to R161; 20_memory R62, R73): the CPU sees the bytes at once,
other agents later. -/
def Obligations.StoreHigh : Prop :=
  ∀ (s : State) (r1 x2 b2 : Reg) (d2 : Disp20), 45 ∈ s.facilities →
    let a := s.addressRxy d2 x2 b2
    let v := s.grh r1
    let stored : Instr → List Byte → Prop := fun i bytes =>
      s.present (s.operand a bytes.length) = true → (∀ x ∈ s.operand a bytes.length, s.hasText x = false) →
        Ends i s 6 [] s.cpu.psw.cc s.cpu.status fun t => s.StoresUnseen t a bytes
    stored (.stch r1 d2 x2 b2) [v.extractLsb' 0 8] ∧
    stored (.sthh r1 d2 x2 b2) [v.extractLsb' 8 8, v.extractLsb' 0 8] ∧
    stored (.stfh r1 d2 x2 b2) [v.extractLsb' 24 8, v.extractLsb' 16 8, v.extractLsb' 8 8, v.extractLsb' 0 8]

/-! ## The interlocked-access facility -/

/-- LAA, LAAL, LAN, LAX and LAO (42_interlocked_access R170, R171, R173, R175, R177, R179): every agent sees the new word
at once, R1 receives the old one and CC describes the new one. That the CPU's earlier stores are visible too is the model's
reading of the order of its stores (log 14). -/
def Obligations.LoadAndUpdateWord : Prop :=
  ∀ (s : State) (r1 r3 b2 : Reg) (d2 : Disp20), s.Sound → 45 ∈ s.facilities →
    let a := s.addressRsy d2 b2
    a.toNat % 4 = 0 → s.present (s.operand a 4) = true → (∀ x ∈ s.operand a 4, s.hasText x = false) →
      let old := BitVec.ofNat 32 (beValue (s.fetchNow (s.operand a 4)))
      let v := s.grl r3
      let x := old.toInt + v.toInt
      let updated : Instr → Word → CondCode → CpuStatus → Prop := fun i new cc status =>
        Ends i s 6 [r1] cc status fun t => s.LowIs r1 old t ∧ s.StoresSeen t a (bytesOf 4 new)
      updated (.laa r1 r3 d2 b2) (BitVec.ofInt 32 x) (exactCode 32 x) (s.statusAfter 6 32 x) ∧
      updated (.laal r1 r3 d2 b2) (BitVec.ofNat 32 (old.toNat + v.toNat)) (logicalAddCode old v) s.cpu.status ∧
      updated (.lan r1 r3 d2 b2) (old &&& v) (zeroCode (old &&& v)) s.cpu.status ∧
      updated (.lax r1 r3 d2 b2) (old ^^^ v) (zeroCode (old ^^^ v)) s.cpu.status ∧
      updated (.lao r1 r3 d2 b2) (old ||| v) (zeroCode (old ||| v)) s.cpu.status

/-- LAAG, LAALG, LANG, LAXG and LAOG (42_interlocked_access R170, R172, R174, R176, R178, R180; log 14 for the CPU's earlier
stores). -/
def Obligations.LoadAndUpdateDoubleword : Prop :=
  ∀ (s : State) (r1 r3 b2 : Reg) (d2 : Disp20), s.Sound → 45 ∈ s.facilities →
    let a := s.addressRsy d2 b2
    a.toNat % 8 = 0 → s.present (s.operand a 8) = true → (∀ x ∈ s.operand a 8, s.hasText x = false) →
      let old := BitVec.ofNat 64 (beValue (s.fetchNow (s.operand a 8)))
      let v := s.gr r3
      let x := old.toInt + v.toInt
      let updated : Instr → Dword → CondCode → CpuStatus → Prop := fun i new cc status =>
        Ends i s 6 [r1] cc status fun t => t.gr r1 = old ∧ s.StoresSeen t a (bytesOf 8 new)
      updated (.laag r1 r3 d2 b2) (BitVec.ofInt 64 x) (exactCode 64 x) (s.statusAfter 6 64 x) ∧
      updated (.laalg r1 r3 d2 b2) (BitVec.ofNat 64 (old.toNat + v.toNat)) (logicalAddCode old v) s.cpu.status ∧
      updated (.lang r1 r3 d2 b2) (old &&& v) (zeroCode (old &&& v)) s.cpu.status ∧
      updated (.laxg r1 r3 d2 b2) (old ^^^ v) (zeroCode (old ^^^ v)) s.cpu.status ∧
      updated (.laog r1 r3 d2 b2) (old ||| v) (zeroCode (old ||| v)) s.cpu.status

/-- LPD and LPDG (42_interlocked_access R181, R182; 20_memory R70): with CC 0 both operands as they are at one instant,
with CC 3 each as it is now or as it was fetched early; which of the two is open (log 10). -/
def Obligations.LoadPairDisjoint : Prop :=
  ∀ (s : State) (r3 b1 b2 : Reg) (d1 d2 : Disp12), 45 ∈ s.facilities → r3.val % 2 = 0 →
    let a1 := s.addressSsf d1 b1
    let a2 := s.addressSsf d2 b2
    let fetched : Bool → Dword → Nat → Nat := fun altered a n =>
      beValue (if altered then s.fetchBlock a n else s.fetchNow (s.operand a n))
    let code : Bool → CondCode := fun altered => if altered then 3#2 else 0#2
    (a1.toNat % 4 = 0 → a2.toNat % 4 = 0 →
      s.present (s.operand a1 4) = true → s.present (s.operand a2 4) = true →
        ∃ altered, Completes (.lpd r3 d1 b1 d2 b2) s 6 [r3, r3 + 1] (code altered) fun t =>
          s.LowIs r3 (BitVec.ofNat 32 (fetched altered a1 4)) t ∧
          s.LowIs (r3 + 1) (BitVec.ofNat 32 (fetched altered a2 4)) t) ∧
    (a1.toNat % 8 = 0 → a2.toNat % 8 = 0 →
      s.present (s.operand a1 8) = true → s.present (s.operand a2 8) = true →
        ∃ altered, Completes (.lpdg r3 d1 b1 d2 b2) s 6 [r3, r3 + 1] (code altered) fun t =>
          t.gr r3 = BitVec.ofNat 64 (fetched altered a1 8) ∧
          t.gr (r3 + 1) = BitVec.ofNat 64 (fetched altered a2 8))

/-- ASI, AGSI, ALSI and ALGSI (42_interlocked_access R183 to R186; 20_memory R69): an aligned operand is updated at one
instant, seen by every agent, when facility bit 45 is one; every other is fetched and then stored (log 13, log 14 for the
order with other agents). -/
def Obligations.AddToStorage : Prop :=
  ∀ (s : State) (b1 : Reg) (d1 : Disp20) (i2 : Byte), s.Sound →
    let a := s.addressRsy d1 b1
    let interlocked : Nat → Prop := fun n => a.toNat % n = 0 ∧ 45 ∈ s.facilities
    let updated : Instr → Nat → List Byte → List Byte → CondCode → CpuStatus → Prop :=
      fun i n old new cc status =>
        (interlocked n → old = s.fetchNow (s.operand a n) →
          Ends i s 6 [] cc status fun t => s.StoresSeen t a new) ∧
        (¬ interlocked n → old = s.fetchForUpdate a n →
          Ends i s 6 [] cc status fun t => s.StoresUnseen t a new)
    (s.present (s.operand a 4) = true → (∀ x ∈ s.operand a 4, s.hasText x = false) →
      ∀ bs : List Byte, bs.length = 4 →
        let old := BitVec.ofNat 32 (beValue bs)
        let x := old.toInt + i2.toInt
        updated (.asi d1 b1 i2) 4 bs (bytesOf 4 (BitVec.ofInt 32 x)) (exactCode 32 x) (s.statusAfter 6 32 x) ∧
        updated (.alsi d1 b1 i2) 4 bs (bytesOf 4 (BitVec.ofInt 32 x)) (logicalAddCode old (i2.signExtend 32))
          s.cpu.status) ∧
    (s.present (s.operand a 8) = true → (∀ x ∈ s.operand a 8, s.hasText x = false) →
      ∀ bs : List Byte, bs.length = 8 →
        let old := BitVec.ofNat 64 (beValue bs)
        let x := old.toInt + i2.toInt
        updated (.agsi d1 b1 i2) 8 bs (bytesOf 8 (BitVec.ofInt 64 x)) (exactCode 64 x) (s.statusAfter 6 64 x) ∧
        updated (.algsi d1 b1 i2) 8 bs (bytesOf 8 (BitVec.ofInt 64 x)) (logicalAddCode old (i2.signExtend 64))
          s.cpu.status)

/-! ## The load/store-on-condition facility -/

/-- LOCR and LOCGR (43_load_store_on_condition R190 to R192). -/
def Obligations.LoadRegisterOnCondition : Prop :=
  ∀ (s : State) (r1 r2 : Reg) (m3 : Mask), 45 ∈ s.facilities →
    Completes (.locr r1 r2 m3) s 4 [r1] s.cpu.psw.cc (fun t =>
      (maskSelects m3 s.cpu.psw.cc → s.LowIs r1 (s.grl r2) t) ∧ (¬ maskSelects m3 s.cpu.psw.cc → t.gr r1 = s.gr r1)) ∧
    Completes (.locgr r1 r2 m3) s 4 [r1] s.cpu.psw.cc fun t =>
      (maskSelects m3 s.cpu.psw.cc → t.gr r1 = s.gr r2) ∧ (¬ maskSelects m3 s.cpu.psw.cc → t.gr r1 = s.gr r1)

/-- LOC and LOCG with a true condition (43_load_store_on_condition R193, R194). -/
def Obligations.LoadOnCondition : Prop :=
  ∀ (s : State) (r1 b2 : Reg) (d2 : Disp20) (m3 : Mask), 45 ∈ s.facilities → maskSelects m3 s.cpu.psw.cc →
    let a := s.addressRsy d2 b2
    (s.present (s.operand a 4) = true → Completes (.loc r1 d2 b2 m3) s 6 [r1] s.cpu.psw.cc
      (s.LowIs r1 (BitVec.ofNat 32 (beValue (s.fetchOperand a 4))))) ∧
    (s.present (s.operand a 8) = true → Completes (.locg r1 d2 b2 m3) s 6 [r1] s.cpu.psw.cc fun t =>
      t.gr r1 = BitVec.ofNat 64 (beValue (s.fetchOperand a 8)))

/-- STOC and STOCG with a true condition (43_load_store_on_condition R195, R196). -/
def Obligations.StoreOnCondition : Prop :=
  ∀ (s : State) (r1 b2 : Reg) (d2 : Disp20) (m3 : Mask), 45 ∈ s.facilities → maskSelects m3 s.cpu.psw.cc →
    let a := s.addressRsy d2 b2
    let stored : Instr → Nat → List Byte → Prop := fun i n bytes =>
      s.present (s.operand a n) = true → (∀ x ∈ s.operand a n, s.hasText x = false) →
        Ends i s 6 [] s.cpu.psw.cc s.cpu.status fun t => s.StoresUnseen t a bytes
    stored (.stoc r1 d2 b2 m3) 4 (bytesOf 4 (s.grl r1)) ∧ stored (.stocg r1 d2 b2 m3) 8 (bytesOf 8 (s.gr r1))

/-- The four with a false condition (43_load_store_on_condition R199): they only advance pc, or, when the operand is
outside STORAGE, may be an addressing exception; which of the two is open (log 11). -/
def Obligations.FalseCondition : Prop :=
  ∀ (s : State) (r1 b2 : Reg) (d2 : Disp20) (m3 : Mask), 45 ∈ s.facilities → ¬ maskSelects m3 s.cpu.psw.cc →
    let skipped : Instr → Nat → Prop := fun i n =>
      (s.present (s.operand (s.addressRsy d2 b2) n) = true → Completes i s 6 [] s.cpu.psw.cc fun _ => True) ∧
      (s.present (s.operand (s.addressRsy d2 b2) n) = false →
        Completes i s 6 [] s.cpu.psw.cc (fun _ => True) ∨ Suppressed .addressing 6 i s)
    skipped (.loc r1 d2 b2 m3) 4 ∧ skipped (.locg r1 d2 b2 m3) 8 ∧ skipped (.stoc r1 d2 b2 m3) 4 ∧
    skipped (.stocg r1 d2 b2 m3) 8

/-! ## The distinct-operands facility -/

/-- Signed addition and subtraction (44_distinct_operands R201 to R204, R219, R220; 60_exceptions R352). -/
def Obligations.SignedDistinct : Prop :=
  ∀ (s : State) (r1 r2 r3 : Reg) (i2 : Half), 45 ∈ s.facilities →
    let low : Instr → Nat → Int → Prop := fun i n x =>
      CompletesSigned i s n 32 [r1] x (s.LowIs r1 (BitVec.ofInt 32 x))
    let full : Instr → Nat → Int → Prop := fun i n x =>
      CompletesSigned i s n 64 [r1] x fun t => t.gr r1 = BitVec.ofInt 64 x
    low (.ark r1 r2 r3) 4 ((s.grl r2).toInt + (s.grl r3).toInt) ∧
    full (.agrk r1 r2 r3) 4 ((s.gr r2).toInt + (s.gr r3).toInt) ∧
    low (.ahik r1 r3 i2) 6 ((s.grl r3).toInt + i2.toInt) ∧ full (.aghik r1 r3 i2) 6 ((s.gr r3).toInt + i2.toInt) ∧
    low (.srk r1 r2 r3) 4 ((s.grl r2).toInt - (s.grl r3).toInt) ∧
    full (.sgrk r1 r2 r3) 4 ((s.gr r2).toInt - (s.gr r3).toInt)

/-- Logical addition and subtraction (44_distinct_operands R205 to R208, R221, R222). -/
def Obligations.LogicalDistinct : Prop :=
  ∀ (s : State) (r1 r2 r3 : Reg) (i2 : Half), 45 ∈ s.facilities →
    let low : Instr → Nat → CondCode → Int → Prop := fun i n cc x =>
      Completes i s n [r1] cc (s.LowIs r1 (BitVec.ofInt 32 x))
    let full : Instr → Nat → CondCode → Int → Prop := fun i n cc x =>
      Completes i s n [r1] cc fun t => t.gr r1 = BitVec.ofInt 64 x
    low (.alrk r1 r2 r3) 4 (logicalAddCode (s.grl r2) (s.grl r3)) ((s.grl r2).toNat + (s.grl r3).toNat) ∧
    full (.algrk r1 r2 r3) 4 (logicalAddCode (s.gr r2) (s.gr r3)) ((s.gr r2).toNat + (s.gr r3).toNat) ∧
    low (.alhsik r1 r3 i2) 6 (logicalAddCode (s.grl r3) (i2.signExtend 32)) ((s.grl r3).toNat + i2.toInt) ∧
    full (.alghsik r1 r3 i2) 6 (logicalAddCode (s.gr r3) (i2.signExtend 64)) ((s.gr r3).toNat + i2.toInt) ∧
    low (.slrk r1 r2 r3) 4 (logicalSubCode (s.grl r2) (s.grl r3)) ((s.grl r2).toNat - (s.grl r3).toNat) ∧
    full (.slgrk r1 r2 r3) 4 (logicalSubCode (s.gr r2) (s.gr r3)) ((s.gr r2).toNat - (s.gr r3).toNat)

/-- AND, exclusive OR and OR, bit by bit (44_distinct_operands R209 to R214; 10_state R34). -/
def Obligations.BitwiseDistinct : Prop :=
  ∀ (s : State) (r1 r2 r3 : Reg), 45 ∈ s.facilities →
    let low : Instr → (Bool → Bool → Bool) → Prop := fun i f =>
      ∃ v : Word, (∀ k < 32, v.getMsbD k = f ((s.grl r2).getMsbD k) ((s.grl r3).getMsbD k)) ∧
        Completes i s 4 [r1] (zeroCode v) (s.LowIs r1 v)
    let full : Instr → (Bool → Bool → Bool) → Prop := fun i f =>
      ∃ v : Dword, (∀ k < 64, v.getMsbD k = f ((s.gr r2).getMsbD k) ((s.gr r3).getMsbD k)) ∧
        Completes i s 4 [r1] (zeroCode v) fun t => t.gr r1 = v
    low (.nrk r1 r2 r3) and ∧ full (.ngrk r1 r2 r3) and ∧ low (.xrk r1 r2 r3) xor ∧ full (.xgrk r1 r2 r3) xor ∧
    low (.ork r1 r2 r3) or ∧ full (.ogrk r1 r2 r3) or

/-- SLAK (44_distinct_operands R215; 10_state R35): the 31-bit numeric part is shifted under an unmoved sign, and a bit
unlike the sign shifted out is an overflow, that is, the product with the power of two, the exponent at most 31, is out
of range. That this is what overflow means is the spec's reading of the source (D9, log 21). -/
def Obligations.ShiftLeftSingle : Prop :=
  ∀ (s : State) (r1 r3 b2 : Reg) (d2 : Disp20), 45 ∈ s.facilities →
    let x := (s.grl r3).toInt * 2 ^ min (s.shiftAmount d2 b2) 31
    CompletesSigned (.slak r1 r3 d2 b2) s 6 32 [r1] x fun t =>
      ∃ v : Word, s.LowIs r1 v t ∧ v.msb = (s.grl r3).msb ∧ (v.toNat : Int) % 2 ^ 31 = x % 2 ^ 31

/-- SRAK (44_distinct_operands R217; 10_state R35): division by the power of two, rounded down. -/
def Obligations.ShiftRightSingle : Prop :=
  ∀ (s : State) (r1 r3 b2 : Reg) (d2 : Disp20), 45 ∈ s.facilities →
    let x := (s.grl r3).toInt / 2 ^ s.shiftAmount d2 b2
    Completes (.srak r1 r3 d2 b2) s 6 [r1] (exactCode 32 x) (s.LowIs r1 (BitVec.ofInt 32 x))

/-- SLLK and SRLK (44_distinct_operands R216, R218): all 32 bits are shifted, and the condition code stays. -/
def Obligations.ShiftLogical : Prop :=
  ∀ (s : State) (r1 r3 b2 : Reg) (d2 : Disp20), 45 ∈ s.facilities →
    let n := s.shiftAmount d2 b2
    Completes (.sllk r1 r3 d2 b2) s 6 [r1] s.cpu.psw.cc
      (s.LowIs r1 (BitVec.ofNat 32 ((s.grl r3).toNat * 2 ^ n))) ∧
    Completes (.srlk r1 r3 d2 b2) s 6 [r1] s.cpu.psw.cc (s.LowIs r1 (BitVec.ofNat 32 ((s.grl r3).toNat / 2 ^ n)))

/-! ## The population-count facility -/

/-- POPCNT (45_population_count R230): byte k of the result is the number of one bits in byte k of the source; CC is 0
when the source is zero, else 1. The condition code is the spec's own choice from general knowledge (D14; log 22, DEDUCED):
93_implementation_defined row 20 lets a cautious model draw any. -/
def Obligations.PopulationCount : Prop :=
  ∀ (s : State) (r1 r2 : Reg), 45 ∈ s.facilities →
    Completes (.popcnt r1 r2) s 4 [r1] (if s.gr r2 = 0#64 then 0#2 else 1#2) fun t =>
      ∀ k < 8, ((t.gr r1).extractLsb' (8 * (7 - k)) 8).toNat =
        ((List.range 8).filter fun j => (s.gr r2).getMsbD (8 * k + j)).length

/-! ## Reset -/

/-- The state after reset has the facilities of 00_scope R10 and no channel subsystem; the rest is the model's choice:
no program text, operating at address 0 in the 24-bit mode, every general register and every byte zero (log 1, log 4, log
5, log 7). -/
def Obligations.ResetState : Prop :=
  State.reset.facilities = [13, 14, 36, 45, 47, 66, 76, 77] ∧ State.reset.channel = none ∧
  State.reset.cpus.length = 1 ∧ State.reset.cpu.status = .operating ∧ State.reset.cpu.psw.pc = 0#64 ∧
  State.reset.cpu.psw.amode = .mode24 ∧ (∀ r, State.reset.gr r = 0#64) ∧ (∀ a, State.reset.view a = 0#8) ∧
  (∀ a, State.reset.present [a] = decide (a < 2 ^ 64)) ∧ (∀ a, State.reset.hasText a = false)

/-! ## Well-formed program text -/

/-- What well-formed program text is and what it promises (30_encoding R127, R115, R116): its bytes are those the encoder
writes for a well-formed instruction; such an instruction runs, unless it stores into program text; and a run that the
model refuses for anything but such a store or a move no agent can make (log 12) began in a state whose text is not well
formed, and that no launch may give (70_reset_and_hazards R381). -/
def Obligations.WellFormedProgramText : Prop :=
  (∀ bs, wellFormedText bs = true ↔ ∃ i : Instr, i.wellFormed = true ∧ encode i = bs) ∧
  (∀ s : State, s.schedule = [] → s.executes → s.wellFormedHere →
    (∃ t, step s = .next t) ∨ step s = .refused .storeIntoProgramText) ∧
  ∀ (s t : State) (moves : List Move) (r : Refusal), Reaches { s with schedule := moves } t → step t = .refused r →
    r ≠ .storeIntoProgramText → r ≠ .inadmissibleMove → ¬ s.WellFormedProgram ∧ ¬ s.Admissible
end

