-- ==== Sys2Proof/Laws/Encoding.lean ====
section
/-! SUPPORT. What each format's decoder reads from what its encoder writes, and the length an encoder's first byte
gives. -/

namespace Sys2Proof

/-! ## Slices -/

/-- A slice of the left part. -/
theorem slice_high {n m : Nat} (a : BitVec n) (b : BitVec m) (k w : Nat) (h : m ≤ k) :
    (a ++ b).extractLsb' k w = a.extractLsb' (k - m) w := by
  apply BitVec.eq_of_getLsbD_eq
  intro i hi
  simp only [BitVec.getLsbD_extractLsb', BitVec.getLsbD_append]
  have h1 : ¬ k + i < m := by omega
  have h2 : k + i - m = k - m + i := by omega
  simp [h1, h2]

/-- A slice of the right part. -/
theorem slice_low {n m : Nat} (a : BitVec n) (b : BitVec m) (k w : Nat) (h : k + w ≤ m) :
    (a ++ b).extractLsb' k w = b.extractLsb' k w := by
  apply BitVec.eq_of_getLsbD_eq
  intro i hi
  simp only [BitVec.getLsbD_extractLsb', BitVec.getLsbD_append]
  have h1 : k + i < m := by omega
  simp [h1]

/-- A slice that is the whole. -/
theorem slice_all {n : Nat} (a : BitVec n) : a.extractLsb' 0 n = a := by
  apply BitVec.eq_of_getLsbD_eq
  intro i hi
  simp [hi]

/-- Two neighbouring slices join. -/
theorem slice_join {n : Nat} (v : BitVec n) (k a b : Nat) :
    v.extractLsb' (k + b) a ++ v.extractLsb' k b = v.extractLsb' k (a + b) := by
  apply BitVec.eq_of_getLsbD_eq
  intro i hi
  simp only [BitVec.getLsbD_append, BitVec.getLsbD_extractLsb']
  by_cases h : i < b
  · have : i < a + b := by omega
    simp [h, this]
  · have h1 : i - b < a := by omega
    have h2 : k + b + (i - b) = k + i := by omega
    simp [h, h1, h2, hi]

/-- The bytes of a halfword join to it. -/
theorem join16 (w : BitVec 16) : (w.extractLsb' 8 8 ++ w.extractLsb' 0 8 : BitVec 16) = w :=
  (slice_join w 0 8 8).trans (slice_all w)

/-- The bytes of a word join to it. -/
theorem join32 (w : BitVec 32) :
    (w.extractLsb' 24 8 ++ w.extractLsb' 16 8 ++ w.extractLsb' 8 8 ++ w.extractLsb' 0 8 : BitVec 32) = w := by
  have h1 := slice_join w 16 8 8
  have h2 := slice_join w 8 (8 + 8) 8
  have h3 := slice_join w 0 (8 + 8 + 8) 8
  exact (congrArg (· ++ w.extractLsb' 0 8) ((congrArg (· ++ w.extractLsb' 8 8) h1).trans h2)).trans
    (h3.trans (slice_all w))

/-- The bytes of six bytes join to them. -/
theorem join48 (w : BitVec 48) :
    (w.extractLsb' 40 8 ++ w.extractLsb' 32 8 ++ w.extractLsb' 24 8 ++ w.extractLsb' 16 8 ++ w.extractLsb' 8 8 ++
      w.extractLsb' 0 8 : BitVec 48) = w := by
  have h1 := slice_join w 32 8 8
  have h2 := slice_join w 24 (8 + 8) 8
  have h3 := slice_join w 16 (8 + 8 + 8) 8
  have h4 := slice_join w 8 (8 + 8 + 8 + 8) 8
  have h5 := slice_join w 0 (8 + 8 + 8 + 8 + 8) 8
  exact (congrArg (· ++ w.extractLsb' 0 8) ((congrArg (· ++ w.extractLsb' 8 8)
    ((congrArg (· ++ w.extractLsb' 16 8) ((congrArg (· ++ w.extractLsb' 24 8) h1).trans h2)).trans h3)).trans h4)).trans
    (h5.trans (slice_all w))

/-- The decoder's reading of the bytes of a halfword. -/
theorem decodeWhole_bytesOf16 (w : BitVec 16) : decodeWhole (bytesOf 2 w) = decode16 w :=
  congrArg decode16 (join16 w)

/-- The decoder's reading of the bytes of a word. -/
theorem decodeWhole_bytesOf32 (w : BitVec 32) : decodeWhole (bytesOf 4 w) = decode32 w :=
  congrArg decode32 (join32 w)

/-- The decoder's reading of six bytes. -/
theorem decodeWhole_bytesOf48 (w : BitVec 48) : decodeWhole (bytesOf 6 w) = decode48 w :=
  congrArg decode48 (join48 w)

/-- DH and DL join to the displacement. -/
theorem dispHigh_append_dispLow (d : Disp20) : (dispHigh d ++ dispLow d : BitVec 20) = d :=
  (slice_join d 0 8 12).trans (slice_all d)

/-- `bytesOf n` has `n` bytes. -/
@[simp] theorem length_bytesOf {w : Nat} (n : Nat) (v : BitVec w) : (bytesOf n v).length = n := by
  induction n with
  | zero => rfl
  | succ k ih => simp [bytesOf, ih]

/-! ## The fields of concatenations -/

theorem fields_16_4_4_4_4 (a : BitVec 16) (b : BitVec 4) (c : BitVec 4) (d : BitVec 4) (e : BitVec 4) :
    (a ++ b ++ c ++ d ++ e).extractLsb' 16 16 = a ∧
    (a ++ b ++ c ++ d ++ e).extractLsb' 12 4 = b ∧
    (a ++ b ++ c ++ d ++ e).extractLsb' 8 4 = c ∧
    (a ++ b ++ c ++ d ++ e).extractLsb' 4 4 = d ∧
    (a ++ b ++ c ++ d ++ e).extractLsb' 0 4 = e ∧
    (a ++ b ++ c ++ d ++ e).extractLsb' 24 8 = a.extractLsb' 8 8 := by
  refine ⟨?_, ?_, ?_, ?_, ?_, ?_⟩ <;>
    repeat (first | exact slice_all _ | rfl | rw [slice_high _ _ _ _ (by decide)] |
      rw [slice_low _ _ _ _ (by decide)])

theorem fields_16_8_4_4 (a : BitVec 16) (b : BitVec 8) (c : BitVec 4) (d : BitVec 4) :
    (a ++ b ++ c ++ d).extractLsb' 16 16 = a ∧
    (a ++ b ++ c ++ d).extractLsb' 8 8 = b ∧
    (a ++ b ++ c ++ d).extractLsb' 4 4 = c ∧
    (a ++ b ++ c ++ d).extractLsb' 0 4 = d ∧
    (a ++ b ++ c ++ d).extractLsb' 24 8 = a.extractLsb' 8 8 := by
  refine ⟨?_, ?_, ?_, ?_, ?_⟩ <;>
    repeat (first | exact slice_all _ | rfl | rw [slice_high _ _ _ _ (by decide)] |
      rw [slice_low _ _ _ _ (by decide)])

theorem fields_16_4_12 (a : BitVec 16) (b : BitVec 4) (c : BitVec 12) :
    (a ++ b ++ c).extractLsb' 16 16 = a ∧
    (a ++ b ++ c).extractLsb' 12 4 = b ∧
    (a ++ b ++ c).extractLsb' 0 12 = c ∧
    (a ++ b ++ c).extractLsb' 24 8 = a.extractLsb' 8 8 := by
  refine ⟨?_, ?_, ?_, ?_⟩ <;>
    repeat (first | exact slice_all _ | rfl | rw [slice_high _ _ _ _ (by decide)] |
      rw [slice_low _ _ _ _ (by decide)])

theorem fields_8_4_4_32 (a : BitVec 8) (b : BitVec 4) (c : BitVec 4) (d : BitVec 32) :
    (a ++ b ++ c ++ d).extractLsb' 40 8 = a ∧
    (a ++ b ++ c ++ d).extractLsb' 36 4 = b ∧
    (a ++ b ++ c ++ d).extractLsb' 32 4 = c ∧
    (a ++ b ++ c ++ d).extractLsb' 0 32 = d ∧
    (a ++ b ++ c ++ d).extractLsb' 40 8 = a.extractLsb' 0 8 := by
  refine ⟨?_, ?_, ?_, ?_, ?_⟩ <;>
    repeat (first | exact slice_all _ | rfl | rw [slice_high _ _ _ _ (by decide)] |
      rw [slice_low _ _ _ _ (by decide)])

theorem fields_8_4_4_4_12_4_12 (a : BitVec 8) (b : BitVec 4) (c : BitVec 4) (d : BitVec 4) (e : BitVec 12) (f : BitVec 4) (g : BitVec 12) :
    (a ++ b ++ c ++ d ++ e ++ f ++ g).extractLsb' 40 8 = a ∧
    (a ++ b ++ c ++ d ++ e ++ f ++ g).extractLsb' 36 4 = b ∧
    (a ++ b ++ c ++ d ++ e ++ f ++ g).extractLsb' 32 4 = c ∧
    (a ++ b ++ c ++ d ++ e ++ f ++ g).extractLsb' 28 4 = d ∧
    (a ++ b ++ c ++ d ++ e ++ f ++ g).extractLsb' 16 12 = e ∧
    (a ++ b ++ c ++ d ++ e ++ f ++ g).extractLsb' 12 4 = f ∧
    (a ++ b ++ c ++ d ++ e ++ f ++ g).extractLsb' 0 12 = g ∧
    (a ++ b ++ c ++ d ++ e ++ f ++ g).extractLsb' 40 8 = a.extractLsb' 0 8 := by
  refine ⟨?_, ?_, ?_, ?_, ?_, ?_, ?_, ?_⟩ <;>
    repeat (first | exact slice_all _ | rfl | rw [slice_high _ _ _ _ (by decide)] |
      rw [slice_low _ _ _ _ (by decide)])

theorem fields_8_4_4_4_12_8_8 (a : BitVec 8) (b : BitVec 4) (c : BitVec 4) (d : BitVec 4) (e : BitVec 12) (f : BitVec 8) (g : BitVec 8) :
    (a ++ b ++ c ++ d ++ e ++ f ++ g).extractLsb' 40 8 = a ∧
    (a ++ b ++ c ++ d ++ e ++ f ++ g).extractLsb' 36 4 = b ∧
    (a ++ b ++ c ++ d ++ e ++ f ++ g).extractLsb' 32 4 = c ∧
    (a ++ b ++ c ++ d ++ e ++ f ++ g).extractLsb' 28 4 = d ∧
    (a ++ b ++ c ++ d ++ e ++ f ++ g).extractLsb' 16 12 = e ∧
    (a ++ b ++ c ++ d ++ e ++ f ++ g).extractLsb' 8 8 = f ∧
    (a ++ b ++ c ++ d ++ e ++ f ++ g).extractLsb' 0 8 = g ∧
    (a ++ b ++ c ++ d ++ e ++ f ++ g).extractLsb' 40 8 = a.extractLsb' 0 8 := by
  refine ⟨?_, ?_, ?_, ?_, ?_, ?_, ?_, ?_⟩ <;>
    repeat (first | exact slice_all _ | rfl | rw [slice_high _ _ _ _ (by decide)] |
      rw [slice_low _ _ _ _ (by decide)])

theorem fields_8_4_4_16_8_8 (a : BitVec 8) (b : BitVec 4) (c : BitVec 4) (d : BitVec 16) (e : BitVec 8) (f : BitVec 8) :
    (a ++ b ++ c ++ d ++ e ++ f).extractLsb' 40 8 = a ∧
    (a ++ b ++ c ++ d ++ e ++ f).extractLsb' 36 4 = b ∧
    (a ++ b ++ c ++ d ++ e ++ f).extractLsb' 32 4 = c ∧
    (a ++ b ++ c ++ d ++ e ++ f).extractLsb' 16 16 = d ∧
    (a ++ b ++ c ++ d ++ e ++ f).extractLsb' 8 8 = e ∧
    (a ++ b ++ c ++ d ++ e ++ f).extractLsb' 0 8 = f ∧
    (a ++ b ++ c ++ d ++ e ++ f).extractLsb' 40 8 = a.extractLsb' 0 8 := by
  refine ⟨?_, ?_, ?_, ?_, ?_, ?_, ?_⟩ <;>
    repeat (first | exact slice_all _ | rfl | rw [slice_high _ _ _ _ (by decide)] |
      rw [slice_low _ _ _ _ (by decide)])

theorem fields_8_4_4_8_8_8_8 (a : BitVec 8) (b : BitVec 4) (c : BitVec 4) (d : BitVec 8) (e : BitVec 8) (f : BitVec 8) (g : BitVec 8) :
    (a ++ b ++ c ++ d ++ e ++ f ++ g).extractLsb' 40 8 = a ∧
    (a ++ b ++ c ++ d ++ e ++ f ++ g).extractLsb' 36 4 = b ∧
    (a ++ b ++ c ++ d ++ e ++ f ++ g).extractLsb' 32 4 = c ∧
    (a ++ b ++ c ++ d ++ e ++ f ++ g).extractLsb' 24 8 = d ∧
    (a ++ b ++ c ++ d ++ e ++ f ++ g).extractLsb' 16 8 = e ∧
    (a ++ b ++ c ++ d ++ e ++ f ++ g).extractLsb' 8 8 = f ∧
    (a ++ b ++ c ++ d ++ e ++ f ++ g).extractLsb' 0 8 = g ∧
    (a ++ b ++ c ++ d ++ e ++ f ++ g).extractLsb' 40 8 = a.extractLsb' 0 8 := by
  refine ⟨?_, ?_, ?_, ?_, ?_, ?_, ?_, ?_⟩ <;>
    repeat (first | exact slice_all _ | rfl | rw [slice_high _ _ _ _ (by decide)] |
      rw [slice_low _ _ _ _ (by decide)])

theorem fields_8_8_4_12_8_8 (a : BitVec 8) (b : BitVec 8) (c : BitVec 4) (d : BitVec 12) (e : BitVec 8) (f : BitVec 8) :
    (a ++ b ++ c ++ d ++ e ++ f).extractLsb' 40 8 = a ∧
    (a ++ b ++ c ++ d ++ e ++ f).extractLsb' 32 8 = b ∧
    (a ++ b ++ c ++ d ++ e ++ f).extractLsb' 28 4 = c ∧
    (a ++ b ++ c ++ d ++ e ++ f).extractLsb' 16 12 = d ∧
    (a ++ b ++ c ++ d ++ e ++ f).extractLsb' 8 8 = e ∧
    (a ++ b ++ c ++ d ++ e ++ f).extractLsb' 0 8 = f ∧
    (a ++ b ++ c ++ d ++ e ++ f).extractLsb' 40 8 = a.extractLsb' 0 8 := by
  refine ⟨?_, ?_, ?_, ?_, ?_, ?_, ?_⟩ <;>
    repeat (first | exact slice_all _ | rfl | rw [slice_high _ _ _ _ (by decide)] |
      rw [slice_low _ _ _ _ (by decide)])

/-! ## Each format: its operands, its operation code and its first byte -/

theorem encRrfA_operands (f : Reg → Reg → Reg → Instr) (op : BitVec 16) (r1 r2 r3 : Reg) :
    rrfA f (encRrfA op r1 r2 r3) = f r1 r2 r3 :=
  have h := fields_16_4_4_4_4 op (regBits r3) 0#4 (regBits r1) (regBits r2)
  congr (congr (congrArg f (congrArg BitVec.toFin h.2.2.2.1)) (congrArg BitVec.toFin h.2.2.2.2.1)) (congrArg BitVec.toFin h.2.1)

theorem encRrfA_code (op : BitVec 16) (r1 r2 r3 : Reg) :
    field (encRrfA op r1 r2 r3) 0 16 = op :=
  have h := fields_16_4_4_4_4 op (regBits r3) 0#4 (regBits r1) (regBits r2)
  h.1

theorem encRrfA_first (op : BitVec 16) (r1 r2 r3 : Reg) :
    (encRrfA op r1 r2 r3).extractLsb' 24 8 = op.extractLsb' 8 8 :=
  (fields_16_4_4_4_4 op (regBits r3) 0#4 (regBits r1) (regBits r2)).2.2.2.2.2

theorem encRrfC_operands (f : Reg → Reg → Mask → Instr) (op : BitVec 16) (r1 r2 : Reg) (m3 : Mask) :
    rrfC f (encRrfC op r1 r2 m3) = f r1 r2 m3 :=
  have h := fields_16_4_4_4_4 op m3 0#4 (regBits r1) (regBits r2)
  congr (congr (congrArg f (congrArg BitVec.toFin h.2.2.2.1)) (congrArg BitVec.toFin h.2.2.2.2.1)) h.2.1

theorem encRrfC_code (op : BitVec 16) (r1 r2 : Reg) (m3 : Mask) :
    field (encRrfC op r1 r2 m3) 0 16 = op :=
  have h := fields_16_4_4_4_4 op m3 0#4 (regBits r1) (regBits r2)
  h.1

theorem encRrfC_first (op : BitVec 16) (r1 r2 : Reg) (m3 : Mask) :
    (encRrfC op r1 r2 m3).extractLsb' 24 8 = op.extractLsb' 8 8 :=
  (fields_16_4_4_4_4 op m3 0#4 (regBits r1) (regBits r2)).2.2.2.2.2

theorem encRrfE_operands (f : Reg → Mask → Reg → Mask → Instr) (op : BitVec 16) (r1 : Reg) (m3 : Mask) (r2 : Reg) (m4 : Mask) :
    rrfE f (encRrfE op r1 m3 r2 m4) = f r1 m3 r2 m4 :=
  have h := fields_16_4_4_4_4 op m3 m4 (regBits r1) (regBits r2)
  congr (congr (congr (congrArg f (congrArg BitVec.toFin h.2.2.2.1)) h.2.1) (congrArg BitVec.toFin h.2.2.2.2.1)) h.2.2.1

theorem encRrfE_code (op : BitVec 16) (r1 : Reg) (m3 : Mask) (r2 : Reg) (m4 : Mask) :
    field (encRrfE op r1 m3 r2 m4) 0 16 = op :=
  have h := fields_16_4_4_4_4 op m3 m4 (regBits r1) (regBits r2)
  h.1

theorem encRrfE_first (op : BitVec 16) (r1 : Reg) (m3 : Mask) (r2 : Reg) (m4 : Mask) :
    (encRrfE op r1 m3 r2 m4).extractLsb' 24 8 = op.extractLsb' 8 8 :=
  (fields_16_4_4_4_4 op m3 m4 (regBits r1) (regBits r2)).2.2.2.2.2

theorem encRrfA4_operands (f : Reg → Reg → Reg → Mask → Instr) (op : BitVec 16) (r1 r2 r3 : Reg) (m4 : Mask) :
    rrfA4 f (encRrfA4 op r1 r2 r3 m4) = f r1 r2 r3 m4 :=
  have h := fields_16_4_4_4_4 op (regBits r3) m4 (regBits r1) (regBits r2)
  congr (congr (congr (congrArg f (congrArg BitVec.toFin h.2.2.2.1)) (congrArg BitVec.toFin h.2.2.2.2.1)) (congrArg BitVec.toFin h.2.1)) h.2.2.1

theorem encRrfA4_code (op : BitVec 16) (r1 r2 r3 : Reg) (m4 : Mask) :
    field (encRrfA4 op r1 r2 r3 m4) 0 16 = op :=
  have h := fields_16_4_4_4_4 op (regBits r3) m4 (regBits r1) (regBits r2)
  h.1

theorem encRrfA4_first (op : BitVec 16) (r1 r2 r3 : Reg) (m4 : Mask) :
    (encRrfA4 op r1 r2 r3 m4).extractLsb' 24 8 = op.extractLsb' 8 8 :=
  (fields_16_4_4_4_4 op (regBits r3) m4 (regBits r1) (regBits r2)).2.2.2.2.2

theorem encRre_operands (f : Reg → Reg → Instr) (op : BitVec 16) (r1 r2 : Reg) :
    rre f (encRre op r1 r2) = f r1 r2 :=
  have h := fields_16_8_4_4 op 0#8 (regBits r1) (regBits r2)
  congr (congrArg f (congrArg BitVec.toFin h.2.2.1)) (congrArg BitVec.toFin h.2.2.2.1)

theorem encRre_code (op : BitVec 16) (r1 r2 : Reg) :
    field (encRre op r1 r2) 0 16 = op :=
  have h := fields_16_8_4_4 op 0#8 (regBits r1) (regBits r2)
  h.1

theorem encRre_first (op : BitVec 16) (r1 r2 : Reg) :
    (encRre op r1 r2).extractLsb' 24 8 = op.extractLsb' 8 8 :=
  (fields_16_8_4_4 op 0#8 (regBits r1) (regBits r2)).2.2.2.2

theorem encSFormat_operands (f : Disp12 → Reg → Instr) (op : BitVec 16) (d2 : Disp12) (b2 : Reg) :
    sFormat f (encSFormat op d2 b2) = f d2 b2 :=
  have h := fields_16_4_12 op (regBits b2) d2
  congr (congrArg f h.2.2.1) (congrArg BitVec.toFin h.2.1)

theorem encSFormat_code (op : BitVec 16) (d2 : Disp12) (b2 : Reg) :
    field (encSFormat op d2 b2) 0 16 = op :=
  have h := fields_16_4_12 op (regBits b2) d2
  h.1

theorem encSFormat_first (op : BitVec 16) (d2 : Disp12) (b2 : Reg) :
    (encSFormat op d2 b2).extractLsb' 24 8 = op.extractLsb' 8 8 :=
  (fields_16_4_12 op (regBits b2) d2).2.2.2

theorem encRilA_operands (f : Reg → Word → Instr) (op : BitVec 8) (op' : BitVec 4) (r1 : Reg) (i2 : Word) :
    rilA f (encRilA op op' r1 i2) = f r1 i2 :=
  have h := fields_8_4_4_32 op (regBits r1) op' i2
  congr (congrArg f (congrArg BitVec.toFin h.2.1)) h.2.2.2.1

theorem encRilA_code (op : BitVec 8) (op' : BitVec 4) (r1 : Reg) (i2 : Word) :
    (field (encRilA op op' r1 i2) 0 8 ++ field (encRilA op op' r1 i2) 12 4 : BitVec 12) = op ++ op' :=
  have h := fields_8_4_4_32 op (regBits r1) op' i2
  congr (congrArg HAppend.hAppend h.1) h.2.2.1

theorem encRilA_first (op : BitVec 8) (op' : BitVec 4) (r1 : Reg) (i2 : Word) :
    (encRilA op op' r1 i2).extractLsb' 40 8 = op.extractLsb' 0 8 :=
  (fields_8_4_4_32 op (regBits r1) op' i2).2.2.2.2

theorem encRilB_operands (f : Reg → Word → Instr) (op : BitVec 8) (op' : BitVec 4) (r1 : Reg) (i2 : Word) :
    rilB f (encRilB op op' r1 i2) = f r1 i2 :=
  have h := fields_8_4_4_32 op (regBits r1) op' i2
  congr (congrArg f (congrArg BitVec.toFin h.2.1)) h.2.2.2.1

theorem encRilB_code (op : BitVec 8) (op' : BitVec 4) (r1 : Reg) (i2 : Word) :
    (field (encRilB op op' r1 i2) 0 8 ++ field (encRilB op op' r1 i2) 12 4 : BitVec 12) = op ++ op' :=
  have h := fields_8_4_4_32 op (regBits r1) op' i2
  congr (congrArg HAppend.hAppend h.1) h.2.2.1

theorem encRilB_first (op : BitVec 8) (op' : BitVec 4) (r1 : Reg) (i2 : Word) :
    (encRilB op op' r1 i2).extractLsb' 40 8 = op.extractLsb' 0 8 :=
  (fields_8_4_4_32 op (regBits r1) op' i2).2.2.2.2

theorem encSsf_operands (f : Reg → Disp12 → Reg → Disp12 → Reg → Instr) (op : BitVec 8) (op' : BitVec 4) (r3 : Reg) (d1 : Disp12) (b1 : Reg) (d2 : Disp12) (b2 : Reg) :
    ssf f (encSsf op op' r3 d1 b1 d2 b2) = f r3 d1 b1 d2 b2 :=
  have h := fields_8_4_4_4_12_4_12 op (regBits r3) op' (regBits b1) d1 (regBits b2) d2
  congr (congr (congr (congr (congrArg f (congrArg BitVec.toFin h.2.1)) h.2.2.2.2.1) (congrArg BitVec.toFin h.2.2.2.1)) h.2.2.2.2.2.2.1) (congrArg BitVec.toFin h.2.2.2.2.2.1)

theorem encSsf_code (op : BitVec 8) (op' : BitVec 4) (r3 : Reg) (d1 : Disp12) (b1 : Reg) (d2 : Disp12) (b2 : Reg) :
    (field (encSsf op op' r3 d1 b1 d2 b2) 0 8 ++ field (encSsf op op' r3 d1 b1 d2 b2) 12 4 : BitVec 12) = op ++ op' :=
  have h := fields_8_4_4_4_12_4_12 op (regBits r3) op' (regBits b1) d1 (regBits b2) d2
  congr (congrArg HAppend.hAppend h.1) h.2.2.1

theorem encSsf_first (op : BitVec 8) (op' : BitVec 4) (r3 : Reg) (d1 : Disp12) (b1 : Reg) (d2 : Disp12) (b2 : Reg) :
    (encSsf op op' r3 d1 b1 d2 b2).extractLsb' 40 8 = op.extractLsb' 0 8 :=
  (fields_8_4_4_4_12_4_12 op (regBits r3) op' (regBits b1) d1 (regBits b2) d2).2.2.2.2.2.2.2

theorem encRxy_operands (f : Reg → Disp20 → Reg → Reg → Instr) (op op' : BitVec 8) (r1 : Reg) (d2 : Disp20) (x2 b2 : Reg) :
    rxy f (encRxy op op' r1 d2 x2 b2) = f r1 d2 x2 b2 :=
  have h := fields_8_4_4_4_12_8_8 op (regBits r1) (regBits x2) (regBits b2) (dispLow d2) (dispHigh d2) op'
  congr (congr (congr (congrArg f (congrArg BitVec.toFin h.2.1)) ((congr (congrArg HAppend.hAppend h.2.2.2.2.2.1) h.2.2.2.2.1).trans (dispHigh_append_dispLow _))) (congrArg BitVec.toFin h.2.2.1)) (congrArg BitVec.toFin h.2.2.2.1)

theorem encRxy_code (op op' : BitVec 8) (r1 : Reg) (d2 : Disp20) (x2 b2 : Reg) :
    (field (encRxy op op' r1 d2 x2 b2) 0 8 ++ field (encRxy op op' r1 d2 x2 b2) 40 8 : BitVec 16) = op ++ op' :=
  have h := fields_8_4_4_4_12_8_8 op (regBits r1) (regBits x2) (regBits b2) (dispLow d2) (dispHigh d2) op'
  congr (congrArg HAppend.hAppend h.1) h.2.2.2.2.2.2.1

theorem encRxy_first (op op' : BitVec 8) (r1 : Reg) (d2 : Disp20) (x2 b2 : Reg) :
    (encRxy op op' r1 d2 x2 b2).extractLsb' 40 8 = op.extractLsb' 0 8 :=
  (fields_8_4_4_4_12_8_8 op (regBits r1) (regBits x2) (regBits b2) (dispLow d2) (dispHigh d2) op').2.2.2.2.2.2.2

theorem encRsyA_operands (f : Reg → Reg → Disp20 → Reg → Instr) (op op' : BitVec 8) (r1 r3 : Reg) (d2 : Disp20) (b2 : Reg) :
    rsyA f (encRsyA op op' r1 r3 d2 b2) = f r1 r3 d2 b2 :=
  have h := fields_8_4_4_4_12_8_8 op (regBits r1) (regBits r3) (regBits b2) (dispLow d2) (dispHigh d2) op'
  congr (congr (congr (congrArg f (congrArg BitVec.toFin h.2.1)) (congrArg BitVec.toFin h.2.2.1)) ((congr (congrArg HAppend.hAppend h.2.2.2.2.2.1) h.2.2.2.2.1).trans (dispHigh_append_dispLow _))) (congrArg BitVec.toFin h.2.2.2.1)

theorem encRsyA_code (op op' : BitVec 8) (r1 r3 : Reg) (d2 : Disp20) (b2 : Reg) :
    (field (encRsyA op op' r1 r3 d2 b2) 0 8 ++ field (encRsyA op op' r1 r3 d2 b2) 40 8 : BitVec 16) = op ++ op' :=
  have h := fields_8_4_4_4_12_8_8 op (regBits r1) (regBits r3) (regBits b2) (dispLow d2) (dispHigh d2) op'
  congr (congrArg HAppend.hAppend h.1) h.2.2.2.2.2.2.1

theorem encRsyA_first (op op' : BitVec 8) (r1 r3 : Reg) (d2 : Disp20) (b2 : Reg) :
    (encRsyA op op' r1 r3 d2 b2).extractLsb' 40 8 = op.extractLsb' 0 8 :=
  (fields_8_4_4_4_12_8_8 op (regBits r1) (regBits r3) (regBits b2) (dispLow d2) (dispHigh d2) op').2.2.2.2.2.2.2

theorem encRsyB_operands (f : Reg → Disp20 → Reg → Mask → Instr) (op op' : BitVec 8) (r1 : Reg) (d2 : Disp20) (b2 : Reg) (m3 : Mask) :
    rsyB f (encRsyB op op' r1 d2 b2 m3) = f r1 d2 b2 m3 :=
  have h := fields_8_4_4_4_12_8_8 op (regBits r1) m3 (regBits b2) (dispLow d2) (dispHigh d2) op'
  congr (congr (congr (congrArg f (congrArg BitVec.toFin h.2.1)) ((congr (congrArg HAppend.hAppend h.2.2.2.2.2.1) h.2.2.2.2.1).trans (dispHigh_append_dispLow _))) (congrArg BitVec.toFin h.2.2.2.1)) h.2.2.1

theorem encRsyB_code (op op' : BitVec 8) (r1 : Reg) (d2 : Disp20) (b2 : Reg) (m3 : Mask) :
    (field (encRsyB op op' r1 d2 b2 m3) 0 8 ++ field (encRsyB op op' r1 d2 b2 m3) 40 8 : BitVec 16) = op ++ op' :=
  have h := fields_8_4_4_4_12_8_8 op (regBits r1) m3 (regBits b2) (dispLow d2) (dispHigh d2) op'
  congr (congrArg HAppend.hAppend h.1) h.2.2.2.2.2.2.1

theorem encRsyB_first (op op' : BitVec 8) (r1 : Reg) (d2 : Disp20) (b2 : Reg) (m3 : Mask) :
    (encRsyB op op' r1 d2 b2 m3).extractLsb' 40 8 = op.extractLsb' 0 8 :=
  (fields_8_4_4_4_12_8_8 op (regBits r1) m3 (regBits b2) (dispLow d2) (dispHigh d2) op').2.2.2.2.2.2.2

theorem encRieD_operands (f : Reg → Reg → Half → Instr) (op op' : BitVec 8) (r1 r3 : Reg) (i2 : Half) :
    rieD f (encRieD op op' r1 r3 i2) = f r1 r3 i2 :=
  have h := fields_8_4_4_16_8_8 op (regBits r1) (regBits r3) i2 0#8 op'
  congr (congr (congrArg f (congrArg BitVec.toFin h.2.1)) (congrArg BitVec.toFin h.2.2.1)) h.2.2.2.1

theorem encRieD_code (op op' : BitVec 8) (r1 r3 : Reg) (i2 : Half) :
    (field (encRieD op op' r1 r3 i2) 0 8 ++ field (encRieD op op' r1 r3 i2) 40 8 : BitVec 16) = op ++ op' :=
  have h := fields_8_4_4_16_8_8 op (regBits r1) (regBits r3) i2 0#8 op'
  congr (congrArg HAppend.hAppend h.1) h.2.2.2.2.2.1

theorem encRieD_first (op op' : BitVec 8) (r1 r3 : Reg) (i2 : Half) :
    (encRieD op op' r1 r3 i2).extractLsb' 40 8 = op.extractLsb' 0 8 :=
  (fields_8_4_4_16_8_8 op (regBits r1) (regBits r3) i2 0#8 op').2.2.2.2.2.2

theorem encRieF_operands (f : Reg → Reg → Byte → Byte → Byte → Instr) (op op' : BitVec 8) (r1 r2 : Reg) (i3 i4 i5 : Byte) :
    rieF f (encRieF op op' r1 r2 i3 i4 i5) = f r1 r2 i3 i4 i5 :=
  have h := fields_8_4_4_8_8_8_8 op (regBits r1) (regBits r2) i3 i4 i5 op'
  congr (congr (congr (congr (congrArg f (congrArg BitVec.toFin h.2.1)) (congrArg BitVec.toFin h.2.2.1)) h.2.2.2.1) h.2.2.2.2.1) h.2.2.2.2.2.1

theorem encRieF_code (op op' : BitVec 8) (r1 r2 : Reg) (i3 i4 i5 : Byte) :
    (field (encRieF op op' r1 r2 i3 i4 i5) 0 8 ++ field (encRieF op op' r1 r2 i3 i4 i5) 40 8 : BitVec 16) = op ++ op' :=
  have h := fields_8_4_4_8_8_8_8 op (regBits r1) (regBits r2) i3 i4 i5 op'
  congr (congrArg HAppend.hAppend h.1) h.2.2.2.2.2.2.1

theorem encRieF_first (op op' : BitVec 8) (r1 r2 : Reg) (i3 i4 i5 : Byte) :
    (encRieF op op' r1 r2 i3 i4 i5).extractLsb' 40 8 = op.extractLsb' 0 8 :=
  (fields_8_4_4_8_8_8_8 op (regBits r1) (regBits r2) i3 i4 i5 op').2.2.2.2.2.2.2

theorem encSiy_operands (f : Disp20 → Reg → Byte → Instr) (op op' : BitVec 8) (d1 : Disp20) (b1 : Reg) (i2 : Byte) :
    siy f (encSiy op op' d1 b1 i2) = f d1 b1 i2 :=
  have h := fields_8_8_4_12_8_8 op i2 (regBits b1) (dispLow d1) (dispHigh d1) op'
  congr (congr (congrArg f ((congr (congrArg HAppend.hAppend h.2.2.2.2.1) h.2.2.2.1).trans (dispHigh_append_dispLow _))) (congrArg BitVec.toFin h.2.2.1)) h.2.1

theorem encSiy_code (op op' : BitVec 8) (d1 : Disp20) (b1 : Reg) (i2 : Byte) :
    (field (encSiy op op' d1 b1 i2) 0 8 ++ field (encSiy op op' d1 b1 i2) 40 8 : BitVec 16) = op ++ op' :=
  have h := fields_8_8_4_12_8_8 op i2 (regBits b1) (dispLow d1) (dispHigh d1) op'
  congr (congrArg HAppend.hAppend h.1) h.2.2.2.2.2.1

theorem encSiy_first (op op' : BitVec 8) (d1 : Disp20) (b1 : Reg) (i2 : Byte) :
    (encSiy op op' d1 b1 i2).extractLsb' 40 8 = op.extractLsb' 0 8 :=
  (fields_8_8_4_12_8_8 op i2 (regBits b1) (dispLow d1) (dispHigh d1) op').2.2.2.2.2.2

end Sys2Proof
end

