-- ==== Sys2Proof/Laws/Memory.lean ====
section
/-! SUPPORT. Storage: every operation keeps the canonical form, and a read after a write. -/

namespace Sys2Proof.Machine

/-- Reading an address that no entry has answers the unlisted byte. -/
theorem Memory.read_absent (m : List Host.Cell) (a : Nat) (h : ∀ c ∈ m, c.1 ≠ a) :
    Memory.read m a = Memory.unlisted := by
  induction m with
  | nil => rfl
  | cons c rest ih =>
    obtain ⟨k, b⟩ := c
    have hk : k ≠ a := h (k, b) (by simp)
    rw [Memory.read, if_neg hk]
    exact ih fun c hc => h c (by simp [hc])

/-- The entries of `Memory.cons`. -/
theorem Memory.mem_cons {a : Nat} {v : Byte} {m : List Host.Cell} {c : Host.Cell} (h : c ∈ Memory.cons a v m) :
    c = (a, v) ∧ v ≠ Memory.unlisted ∨ c ∈ m := by
  unfold Memory.cons at h
  split at h
  · exact .inr h
  · rcases List.mem_cons.mp h with h | h
    · exact .inl ⟨h, ‹_›⟩
    · exact .inr h

/-- The entries after a write: the written one, which is not the unlisted byte, and old ones at other addresses. -/
theorem Memory.mem_write {m : List Host.Cell} (hs : m.Pairwise (fun x y => x.1 < y.1)) {a : Nat} {v : Byte}
    {c : Host.Cell} (h : c ∈ Memory.write m a v) :
    c = (a, v) ∧ v ≠ Memory.unlisted ∨ c ∈ m ∧ c.1 ≠ a := by
  induction m with
  | nil =>
    rcases Memory.mem_cons h with h | h
    · exact .inl h
    · simp at h
  | cons d rest ih =>
    obtain ⟨k, b⟩ := d
    rw [List.pairwise_cons] at hs
    obtain ⟨hk, hr⟩ := hs
    simp only [Memory.write] at h
    split at h
    · rename_i hlt
      rcases Memory.mem_cons h with h | h
      · exact .inl h
      · refine .inr ⟨h, ?_⟩
        rcases List.mem_cons.mp h with rfl | h
        · exact Nat.ne_of_gt hlt
        · have := hk c h; simp only at this; omega
    · split at h
      · rename_i heq
        subst heq
        rcases Memory.mem_cons h with h | h
        · exact .inl h
        · exact .inr ⟨by simp [h], by have := hk c h; simp only at this; omega⟩
      · rename_i hlt hne
        rcases List.mem_cons.mp h with rfl | h
        · exact .inr ⟨by simp, fun h => hne h.symm⟩
        · rcases ih hr h with h | ⟨h, h'⟩
          · exact .inl h
          · exact .inr ⟨by simp [h], h'⟩

/-- A write keeps the canonical form. -/
theorem Memory.write_wf {m : List Host.Cell} (h : Memory.wf m) (a : Nat) (v : Byte) : Memory.wf (Memory.write m a v) := by
  obtain ⟨hs, hz⟩ := h
  refine ⟨?_, fun c hc => ?_⟩
  · clear hz
    induction m with
    | nil => simp only [Memory.write, Memory.cons]; split <;> simp
    | cons d rest ih =>
      obtain ⟨k, b⟩ := d
      have hs' := hs
      rw [List.pairwise_cons] at hs
      obtain ⟨hk, hr⟩ := hs
      simp only [Memory.write]
      split
      · rename_i hlt
        simp only [Memory.cons]
        split
        · exact hs'
        · refine List.pairwise_cons.mpr ⟨fun c hc => ?_, hs'⟩
          rcases List.mem_cons.mp hc with rfl | hc
          · exact hlt
          · have := hk c hc; simp only at this ⊢; omega
      · split
        · rename_i heq
          subst heq
          simp only [Memory.cons]
          split
          · exact hr
          · exact List.pairwise_cons.mpr ⟨hk, hr⟩
        · rename_i hlt hne
          refine List.pairwise_cons.mpr ⟨fun c hc => ?_, ih hr⟩
          rcases Memory.mem_write hr hc with ⟨rfl, -⟩ | ⟨hc, -⟩
          · simp only; omega
          · exact hk c hc
  · rcases Memory.mem_write hs hc with ⟨rfl, hv⟩ | ⟨hc, -⟩
    · exact hv
    · exact hz c hc

/-- A read after a write. -/
theorem Memory.read_write {m : List Host.Cell} (h : Memory.wf m) (a b : Nat) (v : Byte) :
    Memory.read (Memory.write m a v) b = if b = a then v else Memory.read m b := by
  obtain ⟨hs, -⟩ := h
  induction m with
  | nil =>
    simp only [Memory.write, Memory.cons]
    split <;> simp_all [Memory.read, eq_comm]
  | cons d rest ih =>
    obtain ⟨k, w⟩ := d
    rw [List.pairwise_cons] at hs
    obtain ⟨hk, hr⟩ := hs
    have hrest : k ≤ a → ¬ k < a → Memory.read rest a = Memory.unlisted := fun _ _ =>
      Memory.read_absent _ _ fun c hc => by have := hk c hc; simp only at this; omega
    have hlow : a < k → Memory.read rest a = Memory.unlisted := fun _ =>
      Memory.read_absent _ _ fun c hc => by have := hk c hc; simp only at this; omega
    simp only [Memory.write]
    split
    · rename_i hlt
      simp only [Memory.cons]
      split
      · rename_i hv
        split
        · rename_i hb
          subst hb; subst hv
          have : k ≠ b := by omega
          simp [Memory.read, hlow hlt, this]
        · rfl
      · rw [Memory.read]
        by_cases hb : b = a
        · rw [if_pos hb.symm, if_pos hb]
        · rw [if_neg (Ne.symm hb), if_neg hb]
    · split
      · rename_i hge heq
        subst heq
        simp only [Memory.cons]
        split
        · rename_i hv
          split
          · rename_i hb
            subst hb; subst hv
            exact hrest (Nat.le_refl _) (Nat.lt_irrefl _)
          · rename_i hb
            simp [Memory.read, Ne.symm hb]
        · rw [Memory.read]
          by_cases hb : b = a
          · rw [if_pos hb.symm, if_pos hb]
          · rw [if_neg (Ne.symm hb), if_neg hb, Memory.read, if_neg (Ne.symm hb)]
      · rename_i hge hne
        simp only [Memory.read, ih hr]
        split
        · rename_i hb
          subst hb
          simp [Ne.symm hne]
        · rfl

/-- Writing some bytes keeps the canonical form. -/
theorem Memory.writeCells_wf (cells : List Host.Cell) {m : List Host.Cell} (h : Memory.wf m) :
    Memory.wf (Memory.writeCells m cells) := by
  induction cells generalizing m with
  | nil => exact h
  | cons c rest ih => exact ih (Memory.write_wf h c.1 c.2)

/-- Writing some bytes leaves every other byte. -/
theorem Memory.read_writeCells_other (cells : List Host.Cell) {m : List Host.Cell} (h : Memory.wf m) {a : Nat}
    (ha : ∀ c ∈ cells, c.1 ≠ a) : Memory.read (Memory.writeCells m cells) a = Memory.read m a := by
  induction cells generalizing m with
  | nil => rfl
  | cons c rest ih =>
    have hc : c.1 ≠ a := ha c (by simp)
    have hr := ih (Memory.write_wf h c.1 c.2) fun d hd => ha d (by simp [hd])
    simp only [Memory.writeCells, List.foldl_cons] at hr ⊢
    rw [hr, Memory.read_write h, if_neg (Ne.symm hc)]

/-- Writing bytes at different addresses writes each of them. -/
theorem Memory.read_writeCells_mem (cells : List Host.Cell) {m : List Host.Cell} (h : Memory.wf m)
    (hn : (cells.map (·.1)).Nodup) {c : Host.Cell} (hc : c ∈ cells) :
    Memory.read (Memory.writeCells m cells) c.1 = c.2 := by
  induction cells generalizing m with
  | nil => simp at hc
  | cons d rest ih =>
    rw [List.map_cons, List.nodup_cons] at hn
    rcases List.mem_cons.mp hc with rfl | hc
    · have := Memory.read_writeCells_other rest (Memory.write_wf h c.1 c.2) (a := c.1)
        fun e he heq => hn.1 (heq ▸ List.mem_map_of_mem he)
      simp only [Memory.writeCells, List.foldl_cons] at this ⊢
      rw [this, Memory.read_write h, if_pos rfl]
    · exact ih (Memory.write_wf h d.1 d.2) hn.2 hc

/-- Making a buffered store visible keeps the canonical form. -/
theorem Memory.writeStore_wf (st : BufferedStore) {m : List Host.Cell} (h : Memory.wf m) :
    Memory.wf (Memory.writeStore m st) := by
  have : ∀ (units : List (List Host.Cell)) (m : List Host.Cell), Memory.wf m →
      Memory.wf (units.foldl Memory.writeCells m) := by
    intro units
    induction units with
    | nil => exact fun _ h => h
    | cons u rest ih => exact fun m h => ih _ (Memory.writeCells_wf u h)
  exact this st.units m h

/-- Making all buffered stores visible keeps the canonical form. -/
theorem drainAll_wf {s : State} (h : Memory.wf s.storage) : Memory.wf s.drainAll.storage := by
  have : ∀ (buffer : List BufferedStore) (m : List Host.Cell), Memory.wf m →
      Memory.wf (buffer.foldl Memory.writeStore m) := by
    intro buffer
    induction buffer with
    | nil => exact fun _ h => h
    | cons st rest ih => exact fun m h => ih _ (Memory.writeStore_wf st h)
  exact this s.cpu.buffer s.storage h

/-- Writing bytes to storage keeps the canonical form. -/
theorem writeStorage_wf {s : State} (h : Memory.wf s.storage) (a : Dword) (bytes : List Byte) :
    Memory.wf (s.writeStorage a bytes).storage := Memory.writeCells_wf _ h

/-- Storage after reset is in canonical form. -/
theorem reset_storage_wf : Memory.wf State.reset.storage := by decide

end Sys2Proof.Machine
end

