-- ==== Sys2Proof/Laws/State.lean ====
section
/-! SUPPORT. One lemma for each field under each update of the state, true by definition. -/

namespace Sys2Proof.Machine

variable (s : State)

/-! ### setGr -/

@[simp] theorem State.setGr_gr (r : Reg) (v : Dword) : (s.setGr r v).cpu.gr = s.cpu.gr.set r.val v := rfl
@[simp] theorem State.setGr_cr (r : Reg) (v : Dword) : (s.setGr r v).cpu.cr = s.cpu.cr := rfl
@[simp] theorem State.setGr_fpcr (r : Reg) (v : Dword) : (s.setGr r v).cpu.fpcr = s.cpu.fpcr := rfl
@[simp] theorem State.setGr_fpr (r : Reg) (v : Dword) : (s.setGr r v).cpu.fpr = s.cpu.fpr := rfl
@[simp] theorem State.setGr_ar (r : Reg) (v : Dword) : (s.setGr r v).cpu.ar = s.cpu.ar := rfl
@[simp] theorem State.setGr_prefixReg (r : Reg) (v : Dword) : (s.setGr r v).cpu.prefixReg = s.cpu.prefixReg := rfl
@[simp] theorem State.setGr_tlb (r : Reg) (v : Dword) : (s.setGr r v).cpu.tlb = s.cpu.tlb := rfl
@[simp] theorem State.setGr_status (r : Reg) (v : Dword) : (s.setGr r v).cpu.status = s.cpu.status := rfl
@[simp] theorem State.setGr_text (r : Reg) (v : Dword) : (s.setGr r v).cpu.text = s.cpu.text := rfl
@[simp] theorem State.setGr_endAddresses (r : Reg) (v : Dword) :
    (s.setGr r v).cpu.endAddresses = s.cpu.endAddresses := rfl
@[simp] theorem State.setGr_buffer (r : Reg) (v : Dword) : (s.setGr r v).cpu.buffer = s.cpu.buffer := rfl
@[simp] theorem State.setGr_early (r : Reg) (v : Dword) : (s.setGr r v).cpu.early = s.cpu.early := rfl
@[simp] theorem State.setGr_psw (r : Reg) (v : Dword) : (s.setGr r v).cpu.psw = s.cpu.psw := rfl
@[simp] theorem State.setGr_others (r : Reg) (v : Dword) : (s.setGr r v).others = s.others := rfl
@[simp] theorem State.setGr_storage (r : Reg) (v : Dword) : (s.setGr r v).storage = s.storage := rfl
@[simp] theorem State.setGr_regions (r : Reg) (v : Dword) : (s.setGr r v).regions = s.regions := rfl
@[simp] theorem State.setGr_storageKeys (r : Reg) (v : Dword) : (s.setGr r v).storageKeys = s.storageKeys := rfl
@[simp] theorem State.setGr_referenceBits (r : Reg) (v : Dword) : (s.setGr r v).referenceBits = s.referenceBits := rfl
@[simp] theorem State.setGr_facilities (r : Reg) (v : Dword) : (s.setGr r v).facilities = s.facilities := rfl
@[simp] theorem State.setGr_wrappingKeys (r : Reg) (v : Dword) : (s.setGr r v).wrappingKeys = s.wrappingKeys := rfl
@[simp] theorem State.setGr_channel (r : Reg) (v : Dword) : (s.setGr r v).channel = s.channel := rfl
@[simp] theorem State.setGr_schedule (r : Reg) (v : Dword) : (s.setGr r v).schedule = s.schedule := rfl
@[simp] theorem State.setGr_draws (r : Reg) (v : Dword) : (s.setGr r v).draws = s.draws := rfl

/-! ### setGrh -/

@[simp] theorem State.setGrh_cr (r : Reg) (v : Word) : (s.setGrh r v).cpu.cr = s.cpu.cr := rfl
@[simp] theorem State.setGrh_fpcr (r : Reg) (v : Word) : (s.setGrh r v).cpu.fpcr = s.cpu.fpcr := rfl
@[simp] theorem State.setGrh_fpr (r : Reg) (v : Word) : (s.setGrh r v).cpu.fpr = s.cpu.fpr := rfl
@[simp] theorem State.setGrh_ar (r : Reg) (v : Word) : (s.setGrh r v).cpu.ar = s.cpu.ar := rfl
@[simp] theorem State.setGrh_prefixReg (r : Reg) (v : Word) : (s.setGrh r v).cpu.prefixReg = s.cpu.prefixReg := rfl
@[simp] theorem State.setGrh_tlb (r : Reg) (v : Word) : (s.setGrh r v).cpu.tlb = s.cpu.tlb := rfl
@[simp] theorem State.setGrh_status (r : Reg) (v : Word) : (s.setGrh r v).cpu.status = s.cpu.status := rfl
@[simp] theorem State.setGrh_text (r : Reg) (v : Word) : (s.setGrh r v).cpu.text = s.cpu.text := rfl
@[simp] theorem State.setGrh_endAddresses (r : Reg) (v : Word) :
    (s.setGrh r v).cpu.endAddresses = s.cpu.endAddresses := rfl
@[simp] theorem State.setGrh_buffer (r : Reg) (v : Word) : (s.setGrh r v).cpu.buffer = s.cpu.buffer := rfl
@[simp] theorem State.setGrh_early (r : Reg) (v : Word) : (s.setGrh r v).cpu.early = s.cpu.early := rfl
@[simp] theorem State.setGrh_psw (r : Reg) (v : Word) : (s.setGrh r v).cpu.psw = s.cpu.psw := rfl
@[simp] theorem State.setGrh_others (r : Reg) (v : Word) : (s.setGrh r v).others = s.others := rfl
@[simp] theorem State.setGrh_storage (r : Reg) (v : Word) : (s.setGrh r v).storage = s.storage := rfl
@[simp] theorem State.setGrh_regions (r : Reg) (v : Word) : (s.setGrh r v).regions = s.regions := rfl
@[simp] theorem State.setGrh_storageKeys (r : Reg) (v : Word) : (s.setGrh r v).storageKeys = s.storageKeys := rfl
@[simp] theorem State.setGrh_referenceBits (r : Reg) (v : Word) :
    (s.setGrh r v).referenceBits = s.referenceBits := rfl
@[simp] theorem State.setGrh_facilities (r : Reg) (v : Word) : (s.setGrh r v).facilities = s.facilities := rfl
@[simp] theorem State.setGrh_wrappingKeys (r : Reg) (v : Word) : (s.setGrh r v).wrappingKeys = s.wrappingKeys := rfl
@[simp] theorem State.setGrh_channel (r : Reg) (v : Word) : (s.setGrh r v).channel = s.channel := rfl
@[simp] theorem State.setGrh_schedule (r : Reg) (v : Word) : (s.setGrh r v).schedule = s.schedule := rfl
@[simp] theorem State.setGrh_draws (r : Reg) (v : Word) : (s.setGrh r v).draws = s.draws := rfl

/-! ### setGrl -/

@[simp] theorem State.setGrl_cr (r : Reg) (v : Word) : (s.setGrl r v).cpu.cr = s.cpu.cr := rfl
@[simp] theorem State.setGrl_fpcr (r : Reg) (v : Word) : (s.setGrl r v).cpu.fpcr = s.cpu.fpcr := rfl
@[simp] theorem State.setGrl_fpr (r : Reg) (v : Word) : (s.setGrl r v).cpu.fpr = s.cpu.fpr := rfl
@[simp] theorem State.setGrl_ar (r : Reg) (v : Word) : (s.setGrl r v).cpu.ar = s.cpu.ar := rfl
@[simp] theorem State.setGrl_prefixReg (r : Reg) (v : Word) : (s.setGrl r v).cpu.prefixReg = s.cpu.prefixReg := rfl
@[simp] theorem State.setGrl_tlb (r : Reg) (v : Word) : (s.setGrl r v).cpu.tlb = s.cpu.tlb := rfl
@[simp] theorem State.setGrl_status (r : Reg) (v : Word) : (s.setGrl r v).cpu.status = s.cpu.status := rfl
@[simp] theorem State.setGrl_text (r : Reg) (v : Word) : (s.setGrl r v).cpu.text = s.cpu.text := rfl
@[simp] theorem State.setGrl_endAddresses (r : Reg) (v : Word) :
    (s.setGrl r v).cpu.endAddresses = s.cpu.endAddresses := rfl
@[simp] theorem State.setGrl_buffer (r : Reg) (v : Word) : (s.setGrl r v).cpu.buffer = s.cpu.buffer := rfl
@[simp] theorem State.setGrl_early (r : Reg) (v : Word) : (s.setGrl r v).cpu.early = s.cpu.early := rfl
@[simp] theorem State.setGrl_psw (r : Reg) (v : Word) : (s.setGrl r v).cpu.psw = s.cpu.psw := rfl
@[simp] theorem State.setGrl_others (r : Reg) (v : Word) : (s.setGrl r v).others = s.others := rfl
@[simp] theorem State.setGrl_storage (r : Reg) (v : Word) : (s.setGrl r v).storage = s.storage := rfl
@[simp] theorem State.setGrl_regions (r : Reg) (v : Word) : (s.setGrl r v).regions = s.regions := rfl
@[simp] theorem State.setGrl_storageKeys (r : Reg) (v : Word) : (s.setGrl r v).storageKeys = s.storageKeys := rfl
@[simp] theorem State.setGrl_referenceBits (r : Reg) (v : Word) :
    (s.setGrl r v).referenceBits = s.referenceBits := rfl
@[simp] theorem State.setGrl_facilities (r : Reg) (v : Word) : (s.setGrl r v).facilities = s.facilities := rfl
@[simp] theorem State.setGrl_wrappingKeys (r : Reg) (v : Word) : (s.setGrl r v).wrappingKeys = s.wrappingKeys := rfl
@[simp] theorem State.setGrl_channel (r : Reg) (v : Word) : (s.setGrl r v).channel = s.channel := rfl
@[simp] theorem State.setGrl_schedule (r : Reg) (v : Word) : (s.setGrl r v).schedule = s.schedule := rfl
@[simp] theorem State.setGrl_draws (r : Reg) (v : Word) : (s.setGrl r v).draws = s.draws := rfl

/-! ### setCc -/

@[simp] theorem State.setCc_gr (c : CondCode) : (s.setCc c).cpu.gr = s.cpu.gr := rfl
@[simp] theorem State.setCc_cr (c : CondCode) : (s.setCc c).cpu.cr = s.cpu.cr := rfl
@[simp] theorem State.setCc_fpcr (c : CondCode) : (s.setCc c).cpu.fpcr = s.cpu.fpcr := rfl
@[simp] theorem State.setCc_fpr (c : CondCode) : (s.setCc c).cpu.fpr = s.cpu.fpr := rfl
@[simp] theorem State.setCc_ar (c : CondCode) : (s.setCc c).cpu.ar = s.cpu.ar := rfl
@[simp] theorem State.setCc_prefixReg (c : CondCode) : (s.setCc c).cpu.prefixReg = s.cpu.prefixReg := rfl
@[simp] theorem State.setCc_tlb (c : CondCode) : (s.setCc c).cpu.tlb = s.cpu.tlb := rfl
@[simp] theorem State.setCc_status (c : CondCode) : (s.setCc c).cpu.status = s.cpu.status := rfl
@[simp] theorem State.setCc_text (c : CondCode) : (s.setCc c).cpu.text = s.cpu.text := rfl
@[simp] theorem State.setCc_endAddresses (c : CondCode) : (s.setCc c).cpu.endAddresses = s.cpu.endAddresses := rfl
@[simp] theorem State.setCc_buffer (c : CondCode) : (s.setCc c).cpu.buffer = s.cpu.buffer := rfl
@[simp] theorem State.setCc_early (c : CondCode) : (s.setCc c).cpu.early = s.cpu.early := rfl
@[simp] theorem State.setCc_perMask (c : CondCode) : (s.setCc c).cpu.psw.perMask = s.cpu.psw.perMask := rfl
@[simp] theorem State.setCc_datMode (c : CondCode) : (s.setCc c).cpu.psw.datMode = s.cpu.psw.datMode := rfl
@[simp] theorem State.setCc_ioMask (c : CondCode) : (s.setCc c).cpu.psw.ioMask = s.cpu.psw.ioMask := rfl
@[simp] theorem State.setCc_externalMask (c : CondCode) :
    (s.setCc c).cpu.psw.externalMask = s.cpu.psw.externalMask := rfl
@[simp] theorem State.setCc_key (c : CondCode) : (s.setCc c).cpu.psw.key = s.cpu.psw.key := rfl
@[simp] theorem State.setCc_machineCheckMask (c : CondCode) :
    (s.setCc c).cpu.psw.machineCheckMask = s.cpu.psw.machineCheckMask := rfl
@[simp] theorem State.setCc_wait (c : CondCode) : (s.setCc c).cpu.psw.wait = s.cpu.psw.wait := rfl
@[simp] theorem State.setCc_problemState (c : CondCode) :
    (s.setCc c).cpu.psw.problemState = s.cpu.psw.problemState := rfl
@[simp] theorem State.setCc_asc (c : CondCode) : (s.setCc c).cpu.psw.asc = s.cpu.psw.asc := rfl
@[simp] theorem State.setCc_cc (c : CondCode) : (s.setCc c).cpu.psw.cc = c := rfl
@[simp] theorem State.setCc_fpoMask (c : CondCode) : (s.setCc c).cpu.psw.fpoMask = s.cpu.psw.fpoMask := rfl
@[simp] theorem State.setCc_decimalOverflowMask (c : CondCode) :
    (s.setCc c).cpu.psw.decimalOverflowMask = s.cpu.psw.decimalOverflowMask := rfl
@[simp] theorem State.setCc_hfpUnderflowMask (c : CondCode) :
    (s.setCc c).cpu.psw.hfpUnderflowMask = s.cpu.psw.hfpUnderflowMask := rfl
@[simp] theorem State.setCc_hfpSignificanceMask (c : CondCode) :
    (s.setCc c).cpu.psw.hfpSignificanceMask = s.cpu.psw.hfpSignificanceMask := rfl
@[simp] theorem State.setCc_amode (c : CondCode) : (s.setCc c).cpu.psw.amode = s.cpu.psw.amode := rfl
@[simp] theorem State.setCc_pc (c : CondCode) : (s.setCc c).cpu.psw.pc = s.cpu.psw.pc := rfl
@[simp] theorem State.setCc_others (c : CondCode) : (s.setCc c).others = s.others := rfl
@[simp] theorem State.setCc_storage (c : CondCode) : (s.setCc c).storage = s.storage := rfl
@[simp] theorem State.setCc_regions (c : CondCode) : (s.setCc c).regions = s.regions := rfl
@[simp] theorem State.setCc_storageKeys (c : CondCode) : (s.setCc c).storageKeys = s.storageKeys := rfl
@[simp] theorem State.setCc_referenceBits (c : CondCode) : (s.setCc c).referenceBits = s.referenceBits := rfl
@[simp] theorem State.setCc_facilities (c : CondCode) : (s.setCc c).facilities = s.facilities := rfl
@[simp] theorem State.setCc_wrappingKeys (c : CondCode) : (s.setCc c).wrappingKeys = s.wrappingKeys := rfl
@[simp] theorem State.setCc_channel (c : CondCode) : (s.setCc c).channel = s.channel := rfl
@[simp] theorem State.setCc_schedule (c : CondCode) : (s.setCc c).schedule = s.schedule := rfl
@[simp] theorem State.setCc_draws (c : CondCode) : (s.setCc c).draws = s.draws := rfl

/-! ### jump -/

@[simp] theorem State.jump_gr (a : Dword) : (s.jump a).cpu.gr = s.cpu.gr := rfl
@[simp] theorem State.jump_cr (a : Dword) : (s.jump a).cpu.cr = s.cpu.cr := rfl
@[simp] theorem State.jump_fpcr (a : Dword) : (s.jump a).cpu.fpcr = s.cpu.fpcr := rfl
@[simp] theorem State.jump_fpr (a : Dword) : (s.jump a).cpu.fpr = s.cpu.fpr := rfl
@[simp] theorem State.jump_ar (a : Dword) : (s.jump a).cpu.ar = s.cpu.ar := rfl
@[simp] theorem State.jump_prefixReg (a : Dword) : (s.jump a).cpu.prefixReg = s.cpu.prefixReg := rfl
@[simp] theorem State.jump_tlb (a : Dword) : (s.jump a).cpu.tlb = s.cpu.tlb := rfl
@[simp] theorem State.jump_status (a : Dword) : (s.jump a).cpu.status = s.cpu.status := rfl
@[simp] theorem State.jump_text (a : Dword) : (s.jump a).cpu.text = s.cpu.text := rfl
@[simp] theorem State.jump_endAddresses (a : Dword) : (s.jump a).cpu.endAddresses = s.cpu.endAddresses := rfl
@[simp] theorem State.jump_buffer (a : Dword) : (s.jump a).cpu.buffer = s.cpu.buffer := rfl
@[simp] theorem State.jump_early (a : Dword) : (s.jump a).cpu.early = [] := rfl
@[simp] theorem State.jump_perMask (a : Dword) : (s.jump a).cpu.psw.perMask = s.cpu.psw.perMask := rfl
@[simp] theorem State.jump_datMode (a : Dword) : (s.jump a).cpu.psw.datMode = s.cpu.psw.datMode := rfl
@[simp] theorem State.jump_ioMask (a : Dword) : (s.jump a).cpu.psw.ioMask = s.cpu.psw.ioMask := rfl
@[simp] theorem State.jump_externalMask (a : Dword) : (s.jump a).cpu.psw.externalMask = s.cpu.psw.externalMask := rfl
@[simp] theorem State.jump_key (a : Dword) : (s.jump a).cpu.psw.key = s.cpu.psw.key := rfl
@[simp] theorem State.jump_machineCheckMask (a : Dword) :
    (s.jump a).cpu.psw.machineCheckMask = s.cpu.psw.machineCheckMask := rfl
@[simp] theorem State.jump_wait (a : Dword) : (s.jump a).cpu.psw.wait = s.cpu.psw.wait := rfl
@[simp] theorem State.jump_problemState (a : Dword) : (s.jump a).cpu.psw.problemState = s.cpu.psw.problemState := rfl
@[simp] theorem State.jump_asc (a : Dword) : (s.jump a).cpu.psw.asc = s.cpu.psw.asc := rfl
@[simp] theorem State.jump_cc (a : Dword) : (s.jump a).cpu.psw.cc = s.cpu.psw.cc := rfl
@[simp] theorem State.jump_fpoMask (a : Dword) : (s.jump a).cpu.psw.fpoMask = s.cpu.psw.fpoMask := rfl
@[simp] theorem State.jump_decimalOverflowMask (a : Dword) :
    (s.jump a).cpu.psw.decimalOverflowMask = s.cpu.psw.decimalOverflowMask := rfl
@[simp] theorem State.jump_hfpUnderflowMask (a : Dword) :
    (s.jump a).cpu.psw.hfpUnderflowMask = s.cpu.psw.hfpUnderflowMask := rfl
@[simp] theorem State.jump_hfpSignificanceMask (a : Dword) :
    (s.jump a).cpu.psw.hfpSignificanceMask = s.cpu.psw.hfpSignificanceMask := rfl
@[simp] theorem State.jump_amode (a : Dword) : (s.jump a).cpu.psw.amode = s.cpu.psw.amode := rfl
@[simp] theorem State.jump_pc (a : Dword) : (s.jump a).cpu.psw.pc = a := rfl
@[simp] theorem State.jump_others (a : Dword) : (s.jump a).others = s.others := rfl
@[simp] theorem State.jump_storage (a : Dword) : (s.jump a).storage = s.storage := rfl
@[simp] theorem State.jump_regions (a : Dword) : (s.jump a).regions = s.regions := rfl
@[simp] theorem State.jump_storageKeys (a : Dword) : (s.jump a).storageKeys = s.storageKeys := rfl
@[simp] theorem State.jump_referenceBits (a : Dword) : (s.jump a).referenceBits = s.referenceBits := rfl
@[simp] theorem State.jump_facilities (a : Dword) : (s.jump a).facilities = s.facilities := rfl
@[simp] theorem State.jump_wrappingKeys (a : Dword) : (s.jump a).wrappingKeys = s.wrappingKeys := rfl
@[simp] theorem State.jump_channel (a : Dword) : (s.jump a).channel = s.channel := rfl
@[simp] theorem State.jump_schedule (a : Dword) : (s.jump a).schedule = s.schedule := rfl
@[simp] theorem State.jump_draws (a : Dword) : (s.jump a).draws = s.draws := rfl

/-! ### advance -/

@[simp] theorem State.advance_gr (n : Nat) : (s.advance n).cpu.gr = s.cpu.gr := rfl
@[simp] theorem State.advance_cr (n : Nat) : (s.advance n).cpu.cr = s.cpu.cr := rfl
@[simp] theorem State.advance_fpcr (n : Nat) : (s.advance n).cpu.fpcr = s.cpu.fpcr := rfl
@[simp] theorem State.advance_fpr (n : Nat) : (s.advance n).cpu.fpr = s.cpu.fpr := rfl
@[simp] theorem State.advance_ar (n : Nat) : (s.advance n).cpu.ar = s.cpu.ar := rfl
@[simp] theorem State.advance_prefixReg (n : Nat) : (s.advance n).cpu.prefixReg = s.cpu.prefixReg := rfl
@[simp] theorem State.advance_tlb (n : Nat) : (s.advance n).cpu.tlb = s.cpu.tlb := rfl
@[simp] theorem State.advance_status (n : Nat) : (s.advance n).cpu.status = s.cpu.status := rfl
@[simp] theorem State.advance_text (n : Nat) : (s.advance n).cpu.text = s.cpu.text := rfl
@[simp] theorem State.advance_endAddresses (n : Nat) : (s.advance n).cpu.endAddresses = s.cpu.endAddresses := rfl
@[simp] theorem State.advance_buffer (n : Nat) : (s.advance n).cpu.buffer = s.cpu.buffer := rfl
@[simp] theorem State.advance_early (n : Nat) : (s.advance n).cpu.early = [] := rfl
@[simp] theorem State.advance_perMask (n : Nat) : (s.advance n).cpu.psw.perMask = s.cpu.psw.perMask := rfl
@[simp] theorem State.advance_datMode (n : Nat) : (s.advance n).cpu.psw.datMode = s.cpu.psw.datMode := rfl
@[simp] theorem State.advance_ioMask (n : Nat) : (s.advance n).cpu.psw.ioMask = s.cpu.psw.ioMask := rfl
@[simp] theorem State.advance_externalMask (n : Nat) :
    (s.advance n).cpu.psw.externalMask = s.cpu.psw.externalMask := rfl
@[simp] theorem State.advance_key (n : Nat) : (s.advance n).cpu.psw.key = s.cpu.psw.key := rfl
@[simp] theorem State.advance_machineCheckMask (n : Nat) :
    (s.advance n).cpu.psw.machineCheckMask = s.cpu.psw.machineCheckMask := rfl
@[simp] theorem State.advance_wait (n : Nat) : (s.advance n).cpu.psw.wait = s.cpu.psw.wait := rfl
@[simp] theorem State.advance_problemState (n : Nat) :
    (s.advance n).cpu.psw.problemState = s.cpu.psw.problemState := rfl
@[simp] theorem State.advance_asc (n : Nat) : (s.advance n).cpu.psw.asc = s.cpu.psw.asc := rfl
@[simp] theorem State.advance_cc (n : Nat) : (s.advance n).cpu.psw.cc = s.cpu.psw.cc := rfl
@[simp] theorem State.advance_fpoMask (n : Nat) : (s.advance n).cpu.psw.fpoMask = s.cpu.psw.fpoMask := rfl
@[simp] theorem State.advance_decimalOverflowMask (n : Nat) :
    (s.advance n).cpu.psw.decimalOverflowMask = s.cpu.psw.decimalOverflowMask := rfl
@[simp] theorem State.advance_hfpUnderflowMask (n : Nat) :
    (s.advance n).cpu.psw.hfpUnderflowMask = s.cpu.psw.hfpUnderflowMask := rfl
@[simp] theorem State.advance_hfpSignificanceMask (n : Nat) :
    (s.advance n).cpu.psw.hfpSignificanceMask = s.cpu.psw.hfpSignificanceMask := rfl
@[simp] theorem State.advance_amode (n : Nat) : (s.advance n).cpu.psw.amode = s.cpu.psw.amode := rfl
@[simp] theorem State.advance_pc (n : Nat) :
    (s.advance n).cpu.psw.pc = s.cpu.psw.amode.wrap (s.cpu.psw.pc + BitVec.ofNat 64 n) := rfl
@[simp] theorem State.advance_others (n : Nat) : (s.advance n).others = s.others := rfl
@[simp] theorem State.advance_storage (n : Nat) : (s.advance n).storage = s.storage := rfl
@[simp] theorem State.advance_regions (n : Nat) : (s.advance n).regions = s.regions := rfl
@[simp] theorem State.advance_storageKeys (n : Nat) : (s.advance n).storageKeys = s.storageKeys := rfl
@[simp] theorem State.advance_referenceBits (n : Nat) : (s.advance n).referenceBits = s.referenceBits := rfl
@[simp] theorem State.advance_facilities (n : Nat) : (s.advance n).facilities = s.facilities := rfl
@[simp] theorem State.advance_wrappingKeys (n : Nat) : (s.advance n).wrappingKeys = s.wrappingKeys := rfl
@[simp] theorem State.advance_channel (n : Nat) : (s.advance n).channel = s.channel := rfl
@[simp] theorem State.advance_schedule (n : Nat) : (s.advance n).schedule = s.schedule := rfl
@[simp] theorem State.advance_draws (n : Nat) : (s.advance n).draws = s.draws := rfl

/-! ### bufferStore -/

@[simp] theorem State.bufferStore_gr (a : Dword) (bs : List Byte) : (s.bufferStore a bs).cpu.gr = s.cpu.gr := rfl
@[simp] theorem State.bufferStore_cr (a : Dword) (bs : List Byte) : (s.bufferStore a bs).cpu.cr = s.cpu.cr := rfl
@[simp] theorem State.bufferStore_fpcr (a : Dword) (bs : List Byte) :
    (s.bufferStore a bs).cpu.fpcr = s.cpu.fpcr := rfl
@[simp] theorem State.bufferStore_fpr (a : Dword) (bs : List Byte) : (s.bufferStore a bs).cpu.fpr = s.cpu.fpr := rfl
@[simp] theorem State.bufferStore_ar (a : Dword) (bs : List Byte) : (s.bufferStore a bs).cpu.ar = s.cpu.ar := rfl
@[simp] theorem State.bufferStore_prefixReg (a : Dword) (bs : List Byte) :
    (s.bufferStore a bs).cpu.prefixReg = s.cpu.prefixReg := rfl
@[simp] theorem State.bufferStore_tlb (a : Dword) (bs : List Byte) : (s.bufferStore a bs).cpu.tlb = s.cpu.tlb := rfl
@[simp] theorem State.bufferStore_status (a : Dword) (bs : List Byte) :
    (s.bufferStore a bs).cpu.status = s.cpu.status := rfl
@[simp] theorem State.bufferStore_text (a : Dword) (bs : List Byte) :
    (s.bufferStore a bs).cpu.text = s.cpu.text := rfl
@[simp] theorem State.bufferStore_endAddresses (a : Dword) (bs : List Byte) :
    (s.bufferStore a bs).cpu.endAddresses = s.cpu.endAddresses := rfl
@[simp] theorem State.bufferStore_early (a : Dword) (bs : List Byte) :
    (s.bufferStore a bs).cpu.early = s.cpu.early := rfl
@[simp] theorem State.bufferStore_psw (a : Dword) (bs : List Byte) : (s.bufferStore a bs).cpu.psw = s.cpu.psw := rfl
@[simp] theorem State.bufferStore_others (a : Dword) (bs : List Byte) : (s.bufferStore a bs).others = s.others := rfl
@[simp] theorem State.bufferStore_storage (a : Dword) (bs : List Byte) :
    (s.bufferStore a bs).storage = s.storage := rfl
@[simp] theorem State.bufferStore_regions (a : Dword) (bs : List Byte) :
    (s.bufferStore a bs).regions = s.regions := rfl
@[simp] theorem State.bufferStore_storageKeys (a : Dword) (bs : List Byte) :
    (s.bufferStore a bs).storageKeys = s.storageKeys := rfl
@[simp] theorem State.bufferStore_referenceBits (a : Dword) (bs : List Byte) :
    (s.bufferStore a bs).referenceBits = s.referenceBits := rfl
@[simp] theorem State.bufferStore_facilities (a : Dword) (bs : List Byte) :
    (s.bufferStore a bs).facilities = s.facilities := rfl
@[simp] theorem State.bufferStore_wrappingKeys (a : Dword) (bs : List Byte) :
    (s.bufferStore a bs).wrappingKeys = s.wrappingKeys := rfl
@[simp] theorem State.bufferStore_channel (a : Dword) (bs : List Byte) :
    (s.bufferStore a bs).channel = s.channel := rfl
@[simp] theorem State.bufferStore_schedule (a : Dword) (bs : List Byte) :
    (s.bufferStore a bs).schedule = s.schedule := rfl
@[simp] theorem State.bufferStore_draws (a : Dword) (bs : List Byte) : (s.bufferStore a bs).draws = s.draws := rfl

/-! ### drainAll -/

@[simp] theorem State.drainAll_gr : (s.drainAll).cpu.gr = s.cpu.gr := rfl
@[simp] theorem State.drainAll_cr : (s.drainAll).cpu.cr = s.cpu.cr := rfl
@[simp] theorem State.drainAll_fpcr : (s.drainAll).cpu.fpcr = s.cpu.fpcr := rfl
@[simp] theorem State.drainAll_fpr : (s.drainAll).cpu.fpr = s.cpu.fpr := rfl
@[simp] theorem State.drainAll_ar : (s.drainAll).cpu.ar = s.cpu.ar := rfl
@[simp] theorem State.drainAll_prefixReg : (s.drainAll).cpu.prefixReg = s.cpu.prefixReg := rfl
@[simp] theorem State.drainAll_tlb : (s.drainAll).cpu.tlb = s.cpu.tlb := rfl
@[simp] theorem State.drainAll_status : (s.drainAll).cpu.status = s.cpu.status := rfl
@[simp] theorem State.drainAll_text : (s.drainAll).cpu.text = s.cpu.text := rfl
@[simp] theorem State.drainAll_endAddresses : (s.drainAll).cpu.endAddresses = s.cpu.endAddresses := rfl
@[simp] theorem State.drainAll_buffer : (s.drainAll).cpu.buffer = [] := rfl
@[simp] theorem State.drainAll_early : (s.drainAll).cpu.early = s.cpu.early := rfl
@[simp] theorem State.drainAll_psw : (s.drainAll).cpu.psw = s.cpu.psw := rfl
@[simp] theorem State.drainAll_others : (s.drainAll).others = s.others := rfl
@[simp] theorem State.drainAll_regions : (s.drainAll).regions = s.regions := rfl
@[simp] theorem State.drainAll_storageKeys : (s.drainAll).storageKeys = s.storageKeys := rfl
@[simp] theorem State.drainAll_referenceBits : (s.drainAll).referenceBits = s.referenceBits := rfl
@[simp] theorem State.drainAll_facilities : (s.drainAll).facilities = s.facilities := rfl
@[simp] theorem State.drainAll_wrappingKeys : (s.drainAll).wrappingKeys = s.wrappingKeys := rfl
@[simp] theorem State.drainAll_channel : (s.drainAll).channel = s.channel := rfl
@[simp] theorem State.drainAll_schedule : (s.drainAll).schedule = s.schedule := rfl
@[simp] theorem State.drainAll_draws : (s.drainAll).draws = s.draws := rfl

/-! ### writeStorage -/

@[simp] theorem State.writeStorage_gr (a : Dword) (bs : List Byte) : (s.writeStorage a bs).cpu.gr = s.cpu.gr := rfl
@[simp] theorem State.writeStorage_cr (a : Dword) (bs : List Byte) : (s.writeStorage a bs).cpu.cr = s.cpu.cr := rfl
@[simp] theorem State.writeStorage_fpcr (a : Dword) (bs : List Byte) :
    (s.writeStorage a bs).cpu.fpcr = s.cpu.fpcr := rfl
@[simp] theorem State.writeStorage_fpr (a : Dword) (bs : List Byte) : (s.writeStorage a bs).cpu.fpr = s.cpu.fpr := rfl
@[simp] theorem State.writeStorage_ar (a : Dword) (bs : List Byte) : (s.writeStorage a bs).cpu.ar = s.cpu.ar := rfl
@[simp] theorem State.writeStorage_prefixReg (a : Dword) (bs : List Byte) :
    (s.writeStorage a bs).cpu.prefixReg = s.cpu.prefixReg := rfl
@[simp] theorem State.writeStorage_tlb (a : Dword) (bs : List Byte) : (s.writeStorage a bs).cpu.tlb = s.cpu.tlb := rfl
@[simp] theorem State.writeStorage_status (a : Dword) (bs : List Byte) :
    (s.writeStorage a bs).cpu.status = s.cpu.status := rfl
@[simp] theorem State.writeStorage_text (a : Dword) (bs : List Byte) :
    (s.writeStorage a bs).cpu.text = s.cpu.text := rfl
@[simp] theorem State.writeStorage_endAddresses (a : Dword) (bs : List Byte) :
    (s.writeStorage a bs).cpu.endAddresses = s.cpu.endAddresses := rfl
@[simp] theorem State.writeStorage_buffer (a : Dword) (bs : List Byte) :
    (s.writeStorage a bs).cpu.buffer = s.cpu.buffer := rfl
@[simp] theorem State.writeStorage_early (a : Dword) (bs : List Byte) :
    (s.writeStorage a bs).cpu.early = s.cpu.early := rfl
@[simp] theorem State.writeStorage_psw (a : Dword) (bs : List Byte) : (s.writeStorage a bs).cpu.psw = s.cpu.psw := rfl
@[simp] theorem State.writeStorage_others (a : Dword) (bs : List Byte) :
    (s.writeStorage a bs).others = s.others := rfl
@[simp] theorem State.writeStorage_regions (a : Dword) (bs : List Byte) :
    (s.writeStorage a bs).regions = s.regions := rfl
@[simp] theorem State.writeStorage_storageKeys (a : Dword) (bs : List Byte) :
    (s.writeStorage a bs).storageKeys = s.storageKeys := rfl
@[simp] theorem State.writeStorage_referenceBits (a : Dword) (bs : List Byte) :
    (s.writeStorage a bs).referenceBits = s.referenceBits := rfl
@[simp] theorem State.writeStorage_facilities (a : Dword) (bs : List Byte) :
    (s.writeStorage a bs).facilities = s.facilities := rfl
@[simp] theorem State.writeStorage_wrappingKeys (a : Dword) (bs : List Byte) :
    (s.writeStorage a bs).wrappingKeys = s.wrappingKeys := rfl
@[simp] theorem State.writeStorage_channel (a : Dword) (bs : List Byte) :
    (s.writeStorage a bs).channel = s.channel := rfl
@[simp] theorem State.writeStorage_schedule (a : Dword) (bs : List Byte) :
    (s.writeStorage a bs).schedule = s.schedule := rfl
@[simp] theorem State.writeStorage_draws (a : Dword) (bs : List Byte) : (s.writeStorage a bs).draws = s.draws := rfl

/-! ### takeException -/

@[simp] theorem State.takeException_gr (e : ProgramException) (ia : Dword) (n : Option Nat) :
    (s.takeException e ia n).cpu.gr = s.cpu.gr := rfl
@[simp] theorem State.takeException_cr (e : ProgramException) (ia : Dword) (n : Option Nat) :
    (s.takeException e ia n).cpu.cr = s.cpu.cr := rfl
@[simp] theorem State.takeException_fpcr (e : ProgramException) (ia : Dword) (n : Option Nat) :
    (s.takeException e ia n).cpu.fpcr = s.cpu.fpcr := rfl
@[simp] theorem State.takeException_fpr (e : ProgramException) (ia : Dword) (n : Option Nat) :
    (s.takeException e ia n).cpu.fpr = s.cpu.fpr := rfl
@[simp] theorem State.takeException_ar (e : ProgramException) (ia : Dword) (n : Option Nat) :
    (s.takeException e ia n).cpu.ar = s.cpu.ar := rfl
@[simp] theorem State.takeException_prefixReg (e : ProgramException) (ia : Dword) (n : Option Nat) :
    (s.takeException e ia n).cpu.prefixReg = s.cpu.prefixReg := rfl
@[simp] theorem State.takeException_tlb (e : ProgramException) (ia : Dword) (n : Option Nat) :
    (s.takeException e ia n).cpu.tlb = s.cpu.tlb := rfl
@[simp] theorem State.takeException_status (e : ProgramException) (ia : Dword) (n : Option Nat) :
    (s.takeException e ia n).cpu.status = .faulted ⟨e, e.code, ia, n⟩ := rfl
@[simp] theorem State.takeException_text (e : ProgramException) (ia : Dword) (n : Option Nat) :
    (s.takeException e ia n).cpu.text = s.cpu.text := rfl
@[simp] theorem State.takeException_endAddresses (e : ProgramException) (ia : Dword) (n : Option Nat) :
    (s.takeException e ia n).cpu.endAddresses = s.cpu.endAddresses := rfl
@[simp] theorem State.takeException_buffer (e : ProgramException) (ia : Dword) (n : Option Nat) :
    (s.takeException e ia n).cpu.buffer = s.cpu.buffer := rfl
@[simp] theorem State.takeException_early (e : ProgramException) (ia : Dword) (n : Option Nat) :
    (s.takeException e ia n).cpu.early = s.cpu.early := rfl
@[simp] theorem State.takeException_psw (e : ProgramException) (ia : Dword) (n : Option Nat) :
    (s.takeException e ia n).cpu.psw = s.cpu.psw := rfl
@[simp] theorem State.takeException_others (e : ProgramException) (ia : Dword) (n : Option Nat) :
    (s.takeException e ia n).others = s.others := rfl
@[simp] theorem State.takeException_storage (e : ProgramException) (ia : Dword) (n : Option Nat) :
    (s.takeException e ia n).storage = s.storage := rfl
@[simp] theorem State.takeException_regions (e : ProgramException) (ia : Dword) (n : Option Nat) :
    (s.takeException e ia n).regions = s.regions := rfl
@[simp] theorem State.takeException_storageKeys (e : ProgramException) (ia : Dword) (n : Option Nat) :
    (s.takeException e ia n).storageKeys = s.storageKeys := rfl
@[simp] theorem State.takeException_referenceBits (e : ProgramException) (ia : Dword) (n : Option Nat) :
    (s.takeException e ia n).referenceBits = s.referenceBits := rfl
@[simp] theorem State.takeException_facilities (e : ProgramException) (ia : Dword) (n : Option Nat) :
    (s.takeException e ia n).facilities = s.facilities := rfl
@[simp] theorem State.takeException_wrappingKeys (e : ProgramException) (ia : Dword) (n : Option Nat) :
    (s.takeException e ia n).wrappingKeys = s.wrappingKeys := rfl
@[simp] theorem State.takeException_channel (e : ProgramException) (ia : Dword) (n : Option Nat) :
    (s.takeException e ia n).channel = s.channel := rfl
@[simp] theorem State.takeException_schedule (e : ProgramException) (ia : Dword) (n : Option Nat) :
    (s.takeException e ia n).schedule = s.schedule := rfl
@[simp] theorem State.takeException_draws (e : ProgramException) (ia : Dword) (n : Option Nat) :
    (s.takeException e ia n).draws = s.draws := rfl

/-! ### fetchEarly -/

@[simp] theorem State.fetchEarly_gr (a n : Nat) : (s.fetchEarly a n).cpu.gr = s.cpu.gr := rfl
@[simp] theorem State.fetchEarly_cr (a n : Nat) : (s.fetchEarly a n).cpu.cr = s.cpu.cr := rfl
@[simp] theorem State.fetchEarly_fpcr (a n : Nat) : (s.fetchEarly a n).cpu.fpcr = s.cpu.fpcr := rfl
@[simp] theorem State.fetchEarly_fpr (a n : Nat) : (s.fetchEarly a n).cpu.fpr = s.cpu.fpr := rfl
@[simp] theorem State.fetchEarly_ar (a n : Nat) : (s.fetchEarly a n).cpu.ar = s.cpu.ar := rfl
@[simp] theorem State.fetchEarly_prefixReg (a n : Nat) : (s.fetchEarly a n).cpu.prefixReg = s.cpu.prefixReg := rfl
@[simp] theorem State.fetchEarly_tlb (a n : Nat) : (s.fetchEarly a n).cpu.tlb = s.cpu.tlb := rfl
@[simp] theorem State.fetchEarly_status (a n : Nat) : (s.fetchEarly a n).cpu.status = s.cpu.status := rfl
@[simp] theorem State.fetchEarly_text (a n : Nat) : (s.fetchEarly a n).cpu.text = s.cpu.text := rfl
@[simp] theorem State.fetchEarly_endAddresses (a n : Nat) :
    (s.fetchEarly a n).cpu.endAddresses = s.cpu.endAddresses := rfl
@[simp] theorem State.fetchEarly_buffer (a n : Nat) : (s.fetchEarly a n).cpu.buffer = s.cpu.buffer := rfl
@[simp] theorem State.fetchEarly_psw (a n : Nat) : (s.fetchEarly a n).cpu.psw = s.cpu.psw := rfl
@[simp] theorem State.fetchEarly_others (a n : Nat) : (s.fetchEarly a n).others = s.others := rfl
@[simp] theorem State.fetchEarly_storage (a n : Nat) : (s.fetchEarly a n).storage = s.storage := rfl
@[simp] theorem State.fetchEarly_regions (a n : Nat) : (s.fetchEarly a n).regions = s.regions := rfl
@[simp] theorem State.fetchEarly_storageKeys (a n : Nat) : (s.fetchEarly a n).storageKeys = s.storageKeys := rfl
@[simp] theorem State.fetchEarly_referenceBits (a n : Nat) : (s.fetchEarly a n).referenceBits = s.referenceBits := rfl
@[simp] theorem State.fetchEarly_facilities (a n : Nat) : (s.fetchEarly a n).facilities = s.facilities := rfl
@[simp] theorem State.fetchEarly_wrappingKeys (a n : Nat) : (s.fetchEarly a n).wrappingKeys = s.wrappingKeys := rfl
@[simp] theorem State.fetchEarly_channel (a n : Nat) : (s.fetchEarly a n).channel = s.channel := rfl
@[simp] theorem State.fetchEarly_schedule (a n : Nat) : (s.fetchEarly a n).schedule = s.schedule := rfl
@[simp] theorem State.fetchEarly_draws (a n : Nat) : (s.fetchEarly a n).draws = s.draws := rfl

/-! ### finish -/

@[simp] theorem State.finish_gr : (s.finish).cpu.gr = s.cpu.gr := rfl
@[simp] theorem State.finish_cr : (s.finish).cpu.cr = s.cpu.cr := rfl
@[simp] theorem State.finish_fpcr : (s.finish).cpu.fpcr = s.cpu.fpcr := rfl
@[simp] theorem State.finish_fpr : (s.finish).cpu.fpr = s.cpu.fpr := rfl
@[simp] theorem State.finish_ar : (s.finish).cpu.ar = s.cpu.ar := rfl
@[simp] theorem State.finish_prefixReg : (s.finish).cpu.prefixReg = s.cpu.prefixReg := rfl
@[simp] theorem State.finish_tlb : (s.finish).cpu.tlb = s.cpu.tlb := rfl
@[simp] theorem State.finish_status : (s.finish).cpu.status = .finished := rfl
@[simp] theorem State.finish_text : (s.finish).cpu.text = s.cpu.text := rfl
@[simp] theorem State.finish_endAddresses : (s.finish).cpu.endAddresses = s.cpu.endAddresses := rfl
@[simp] theorem State.finish_buffer : (s.finish).cpu.buffer = s.cpu.buffer := rfl
@[simp] theorem State.finish_early : (s.finish).cpu.early = s.cpu.early := rfl
@[simp] theorem State.finish_psw : (s.finish).cpu.psw = s.cpu.psw := rfl
@[simp] theorem State.finish_others : (s.finish).others = s.others := rfl
@[simp] theorem State.finish_storage : (s.finish).storage = s.storage := rfl
@[simp] theorem State.finish_regions : (s.finish).regions = s.regions := rfl
@[simp] theorem State.finish_storageKeys : (s.finish).storageKeys = s.storageKeys := rfl
@[simp] theorem State.finish_referenceBits : (s.finish).referenceBits = s.referenceBits := rfl
@[simp] theorem State.finish_facilities : (s.finish).facilities = s.facilities := rfl
@[simp] theorem State.finish_wrappingKeys : (s.finish).wrappingKeys = s.wrappingKeys := rfl
@[simp] theorem State.finish_channel : (s.finish).channel = s.channel := rfl
@[simp] theorem State.finish_schedule : (s.finish).schedule = s.schedule := rfl
@[simp] theorem State.finish_draws : (s.finish).draws = s.draws := rfl

end Sys2Proof.Machine
end

