-- ==== Sys2Proof/Laws/Ops.lean ====
section
/-! SUPPORT. For each shared operation, once, everything it can do: what the registers read after a write, and what a
check that answers a next state has found. -/

namespace Sys2Proof.Machine

/-! ## Registers -/

/-- The bits of two joined words. -/
theorem getLsbD_joinWords (a b : Word) (i : Nat) :
    (joinWords a b).getLsbD i = if i < 32 then b.getLsbD i else a.getLsbD (i - 32) := by
  have h : (joinWords a b).getLsbD i = (a ++ b).getLsbD i := rfl
  rw [h, BitVec.getLsbD_append]

/-- The high word of two words. -/
@[simp] theorem highWord_joinWords (a b : Word) : highWord (joinWords a b) = a := by
  apply BitVec.eq_of_getLsbD_eq
  intro i hi
  rw [highWord, BitVec.getLsbD_extractLsb', getLsbD_joinWords]
  simp [hi]

/-- The low word of two words. -/
@[simp] theorem lowWord_joinWords (a b : Word) : lowWord (joinWords a b) = b := by
  apply BitVec.eq_of_getLsbD_eq
  intro i hi
  rw [lowWord, BitVec.getLsbD_extractLsb', getLsbD_joinWords]
  simp [hi]

/-- A doubleword is its two words. -/
@[simp] theorem joinWords_words (v : Dword) : joinWords (highWord v) (lowWord v) = v := by
  apply BitVec.eq_of_getLsbD_eq
  intro i hi
  rw [getLsbD_joinWords, highWord, lowWord, BitVec.getLsbD_extractLsb', BitVec.getLsbD_extractLsb']
  split
  · simp [*]
  · rename_i h
    have h' : 32 + (i - 32) = i := by omega
    have h'' : i - 32 < 32 := by omega
    simp [h', h'']

/-- A read after a write of a whole register. -/
theorem State.gr_setGr (s : State) (r q : Reg) (v : Dword) :
    (s.setGr r v).gr q = if q = r then v else s.gr q := by
  simp only [State.gr, State.setGr_gr, Vector.getElem_set]
  by_cases h : q = r
  · simp [h]
  · have : r.val ≠ q.val := fun hv => h (Fin.ext hv.symm)
    simp [h, this]

@[simp] theorem State.gr_setGr_self (s : State) (r : Reg) (v : Dword) : (s.setGr r v).gr r = v := by
  simp [State.gr_setGr]

@[simp] theorem State.gr_setGr_other (s : State) {r q : Reg} (v : Dword) (h : q ≠ r) :
    (s.setGr r v).gr q = s.gr q := by
  simp [State.gr_setGr, h]

@[simp] theorem State.grh_setGrh (s : State) (r : Reg) (v : Word) : (s.setGrh r v).grh r = v := by
  simp [State.setGrh, State.grh]

@[simp] theorem State.grl_setGrh (s : State) (r : Reg) (v : Word) : (s.setGrh r v).grl r = s.grl r := by
  simp [State.setGrh, State.grl]

@[simp] theorem State.grl_setGrl (s : State) (r : Reg) (v : Word) : (s.setGrl r v).grl r = v := by
  simp [State.setGrl, State.grl]

@[simp] theorem State.grh_setGrl (s : State) (r : Reg) (v : Word) : (s.setGrl r v).grh r = s.grh r := by
  simp [State.setGrl, State.grh]

@[simp] theorem State.gr_setGrh_other (s : State) {r q : Reg} (v : Word) (h : q ≠ r) :
    (s.setGrh r v).gr q = s.gr q := by
  simp [State.setGrh, h]

@[simp] theorem State.gr_setGrl_other (s : State) {r q : Reg} (v : Word) (h : q ≠ r) :
    (s.setGrl r v).gr q = s.gr q := by
  simp [State.setGrl, h]

/-- Registers are read through the CPU's register file alone. -/
theorem State.gr_congr {s t : State} (h : t.cpu.gr = s.cpu.gr) (r : Reg) : t.gr r = s.gr r := by
  simp [State.gr, h]

@[simp] theorem State.gr_setCc (s : State) (c : CondCode) (r : Reg) : (s.setCc c).gr r = s.gr r := rfl
@[simp] theorem State.gr_jump (s : State) (a : Dword) (r : Reg) : (s.jump a).gr r = s.gr r := rfl
@[simp] theorem State.gr_advance (s : State) (n : Nat) (r : Reg) : (s.advance n).gr r = s.gr r := rfl
@[simp] theorem State.gr_drainAll (s : State) (r : Reg) : s.drainAll.gr r = s.gr r := rfl
@[simp] theorem State.gr_bufferStore (s : State) (a : Dword) (bs : List Byte) (r : Reg) :
    (s.bufferStore a bs).gr r = s.gr r := rfl
@[simp] theorem State.gr_writeStorage (s : State) (a : Dword) (bs : List Byte) (r : Reg) :
    (s.writeStorage a bs).gr r = s.gr r := rfl
@[simp] theorem State.gr_takeException (s : State) (e : ProgramException) (ia : Dword) (n : Option Nat) (r : Reg) :
    (s.takeException e ia n).gr r = s.gr r := rfl
@[simp] theorem State.grh_setCc (s : State) (c : CondCode) (r : Reg) : (s.setCc c).grh r = s.grh r := rfl
@[simp] theorem State.grl_setCc (s : State) (c : CondCode) (r : Reg) : (s.setCc c).grl r = s.grl r := rfl
@[simp] theorem State.grh_advance (s : State) (n : Nat) (r : Reg) : (s.advance n).grh r = s.grh r := rfl
@[simp] theorem State.grl_advance (s : State) (n : Nat) (r : Reg) : (s.advance n).grl r = s.grl r := rfl
@[simp] theorem State.grh_jump (s : State) (a : Dword) (r : Reg) : (s.jump a).grh r = s.grh r := rfl
@[simp] theorem State.grl_jump (s : State) (a : Dword) (r : Reg) : (s.jump a).grl r = s.grl r := rfl

/-! ## What a check has found -/

/-- A facility check. -/
theorem requireFacility_next {n : Nat} {s t : State} {k : Result} (h : requireFacility n s k = .next t) :
    s.facilities.contains 45 = true ∧ k = .next t ∨
      s.facilities.contains 45 = false ∧ t = s.takeException .operation s.cpu.psw.pc (some n) := by
  unfold requireFacility at h
  split at h
  · exact .inl ⟨‹_›, h⟩
  · rename_i hc
    refine .inr ⟨Bool.eq_false_iff.mpr hc, ?_⟩
    simpa [suppress, eq_comm] using h

/-- A check of the operand designation. -/
theorem requireDesignation_next {ok : Bool} {n : Nat} {s t : State} {k : Result}
    (h : requireDesignation ok n s k = .next t) :
    ok = true ∧ k = .next t ∨ ok = false ∧ t = s.takeException .specification s.cpu.psw.pc (some n) := by
  unfold requireDesignation at h
  split at h
  · exact .inl ⟨‹_›, h⟩
  · rename_i hc
    refine .inr ⟨Bool.eq_false_iff.mpr hc, ?_⟩
    simpa [suppress, eq_comm] using h

/-- A check that an operand is in STORAGE. -/
theorem requirePresent_next {as : List Nat} {n : Nat} {s t : State} {k : Result}
    (h : requirePresent as n s k = .next t) :
    s.present as = true ∧ k = .next t ∨
      s.present as = false ∧ t = s.takeException .addressing s.cpu.psw.pc (some n) := by
  unfold requirePresent at h
  split at h
  · exact .inl ⟨‹_›, h⟩
  · rename_i hc
    refine .inr ⟨Bool.eq_false_iff.mpr hc, ?_⟩
    simpa [suppress, eq_comm] using h

/-- A check that a store does not overlap program text. -/
theorem requireNoText_next {as : List Nat} {s t : State} {k : Result} (h : requireNoText as s k = .next t) :
    (∀ a ∈ as, s.hasText a = false) ∧ k = .next t := by
  unfold requireNoText at h
  split at h
  · cases h
  · rename_i hn
    refine ⟨fun a ha => ?_, h⟩
    by_contra hc
    exact hn (List.any_eq_true.mpr ⟨a, ha, by simpa using hc⟩)

/-- The end of an instruction. -/
theorem complete_next {n : Nat} {o : Bool} {s t u : State} (h : complete n o s t = .next u) :
    u = t ∨ o = true ∧ s.cpu.psw.fpoMask = true ∧ u = t.takeException .fixedPointOverflow s.cpu.psw.pc (some n) := by
  unfold complete at h
  split at h
  · rename_i hc
    simp only [Bool.and_eq_true] at hc
    exact .inr ⟨hc.1, hc.2, by simpa [eq_comm] using h⟩
  · exact .inl (by simpa [eq_comm] using h)

/-- A conditional storage instruction whose condition is false. -/
theorem conditionFalse_next {a : Dword} {n il : Nat} {s t : State} (h : conditionFalse a n il s = .next t) :
    t = ({ s with draws := s.draws + 1 } : State).advance il ∨
      s.present (s.operand a n) = false ∧ Config.falseConditionTests s.draws = true ∧
        t = ({ s with draws := s.draws + 1 } : State).takeException .addressing s.cpu.psw.pc (some il) := by
  unfold conditionFalse at h
  simp only at h
  split at h
  · rename_i hc
    simp only [Bool.and_eq_true, Bool.not_eq_true'] at hc
    refine .inr ⟨hc.1, hc.2, ?_⟩
    simpa [suppress, eq_comm] using h
  · exact .inl (by simpa [eq_comm] using h)

/-! ## Addresses -/

/-- A wrapped address is wrapped. -/
@[simp] theorem AMode.wrap_wrap (m : AMode) (a : Dword) : m.wrap (m.wrap a) = m.wrap a := by
  cases m <;> simp [AMode.wrap, BitVec.and_assoc]

/-- Wrapping keeps the rightmost bit. -/
theorem AMode.wrap_even (m : AMode) (a : Dword) : (m.wrap a).toNat % 2 = a.toNat % 2 := by
  have key : ∀ (x y : Dword), y.toNat % 2 = 1 → (x &&& y).toNat % 2 = x.toNat % 2 := by
    intro x y hy
    have h1 : (x &&& y).toNat.testBit 0 = (x.toNat.testBit 0 && y.toNat.testBit 0) := by
      rw [BitVec.toNat_and, Nat.testBit_and]
    simp only [Nat.testBit_zero, hy] at h1
    rcases Nat.mod_two_eq_zero_or_one (x &&& y).toNat with h | h <;>
      rcases Nat.mod_two_eq_zero_or_one x.toNat with h' | h' <;> rw [h, h'] at h1 <;> simp_all
  cases m
  · exact key _ _ (by decide)
  · exact key _ _ (by decide)
  · rfl

end Sys2Proof.Machine
end

