-- ==== Sys2Proof/Laws/Effect.lean ====
section
/-! SUPPORT. Everything an instruction can do, said once: a next state of `exec` is reached by the shared operations
below, and by them under these conditions only. An invariant of every instruction is one induction over this. The last
sections say in which outcomes an instruction can end, and what a fetch that answers bytes says. -/

namespace Sys2Proof.Machine

/-- The states the shared operations reach from one. -/
inductive Effect (s : State) : State → Prop
  | refl : Effect s s
  | setGr {t : State} (r : Reg) (v : Dword) : Effect s t → Effect s (t.setGr r v)
  | setCc {t : State} (c : CondCode) : Effect s t → Effect s (t.setCc c)
  /-- pc becomes an address of the addressing mode, even when the one before is. -/
  | jump {t : State} (a : Dword) : (t.cpu.psw.pc.toNat % 2 = 0 → a.toNat % 2 = 0) → t.cpu.psw.amode.wrap a = a →
      Effect s t → Effect s (t.jump a)
  | drainAll {t : State} : Effect s t → Effect s t.drainAll
  /-- A store of at most eight bytes enters the buffer: all its bytes are in STORAGE and none is program text. -/
  | bufferStore {t : State} (a : Dword) (bs : List Byte) : bs.length ≤ 8 → t.present (t.operand a bs.length) = true →
      (∀ x ∈ t.operand a bs.length, t.hasText x = false) → Effect s t → Effect s (t.bufferStore a bs)
  /-- An interlocked update writes storage, under the same conditions. -/
  | writeStorage {t : State} (a : Dword) (bs : List Byte) : t.present (t.operand a bs.length) = true →
      (∀ x ∈ t.operand a bs.length, t.hasText x = false) → Effect s t → Effect s (t.writeStorage a bs)
  | draw {t : State} : Effect s t → Effect s { t with draws := t.draws + 1 }
  | takeException {t : State} (e : ProgramException) (ia : Dword) (n : Option Nat) : Effect s t →
      Effect s (t.takeException e ia n)

variable {s t : State}

theorem Effect.setGrh (r : Reg) (v : Word) (h : Effect s t) : Effect s (t.setGrh r v) := h.setGr _ _

theorem Effect.setGrl (r : Reg) (v : Word) (h : Effect s t) : Effect s (t.setGrl r v) := h.setGr _ _

/-- Advancing by an even length. -/
theorem Effect.advance (n : Nat) (hn : n % 2 = 0) (h : Effect s t) : Effect s (t.advance n) := by
  refine Effect.jump _ (fun hp => ?_) (by simp) h
  rw [AMode.wrap_even, BitVec.toNat_add, BitVec.toNat_ofNat]
  omega

/-- A branch by an even distance. -/
theorem Effect.branch (i : Word) (ht : t.cpu.psw = s.cpu.psw) (h : Effect s t) :
    Effect s (t.jump (s.branchTarget i)) := by
  refine Effect.jump _ (fun hp => ?_) (by rw [ht]; simp [State.branchTarget]) h
  rw [State.branchTarget, AMode.wrap_even, BitVec.toNat_add, BitVec.toNat_mul, ← ht]
  have h2 : (2#64).toNat = 2 := rfl
  rw [h2]
  omega

/-! ## The shared parts of the meanings -/

theorem requireFacility_effect {n : Nat} {k : Result} (hk : ∀ t, k = .next t → Effect s t)
    (h : requireFacility n s k = .next t) : Effect s t := by
  rcases requireFacility_next h with ⟨-, h⟩ | ⟨-, rfl⟩
  · exact hk t h
  · exact Effect.refl.takeException _ _ _

theorem requireDesignation_effect {ok : Bool} {n : Nat} {k : Result} (hk : ∀ t, k = .next t → Effect s t)
    (h : requireDesignation ok n s k = .next t) : Effect s t := by
  rcases requireDesignation_next h with ⟨-, h⟩ | ⟨-, rfl⟩
  · exact hk t h
  · exact Effect.refl.takeException _ _ _

theorem requirePresent_effect {as : List Nat} {n : Nat} {k : Result}
    (hk : s.present as = true → ∀ t, k = .next t → Effect s t)
    (h : requirePresent as n s k = .next t) : Effect s t := by
  rcases requirePresent_next h with ⟨hp, h⟩ | ⟨-, rfl⟩
  · exact hk hp t h
  · exact Effect.refl.takeException _ _ _

theorem complete_effect {n : Nat} {o : Bool} {t u : State} (ht : Effect s t) (h : complete n o s t = .next u) :
    Effect s u := by
  rcases complete_next h with rfl | ⟨-, -, rfl⟩
  · exact ht
  · exact ht.takeException _ _ _

theorem conditionFalse_effect {a : Dword} {n il : Nat} (hil : il % 2 = 0) (h : conditionFalse a n il s = .next t) :
    Effect s t := by
  rcases conditionFalse_next h with rfl | ⟨-, -, rfl⟩
  · exact Effect.refl.draw.advance _ hil
  · exact Effect.refl.draw.takeException _ _ _

theorem withFetch_effect {a : Dword} {n il : Nat} {k : Nat → Result} (hk : ∀ v t, k v = .next t → Effect s t)
    (h : withFetch a n il s k = .next t) : Effect s t :=
  requirePresent_effect (fun _ => hk _) h

theorem withStore_effect {w : Nat} {a : Dword} {n il : Nat} {v : BitVec w} {k : State → Result} (h8 : n ≤ 8)
    (hk : ∀ u, Effect s u → ∀ t, k u = .next t → Effect s t) (h : withStore a n v il s k = .next t) : Effect s t := by
  refine requirePresent_effect (fun hp t h => ?_) h
  obtain ⟨hn, h⟩ := requireNoText_next h
  exact hk _ (Effect.refl.bufferStore a _ (by simpa using h8) (by simpa using hp) (by simpa using hn)) t h

theorem withInterlocked_effect {a : Dword} {n il : Nat} {k : State → Nat → Result}
    (hk : s.present (s.operand a n) = true → (∀ x ∈ s.operand a n, s.hasText x = false) →
      ∀ v t, k s.drainAll v = .next t → Effect s t)
    (h : withInterlocked a n il s k = .next t) : Effect s t := by
  refine requirePresent_effect (fun hp t h => ?_) h
  obtain ⟨hn, h⟩ := requireNoText_next h
  exact hk hp hn _ t h

theorem withUpdate_effect {a : Dword} {n il : Nat} {k : Nat → Result}
    (hk : s.present (s.operand a n) = true → (∀ x ∈ s.operand a n, s.hasText x = false) →
      ∀ v t, k v = .next t → Effect s t)
    (h : withUpdate a n il s k = .next t) : Effect s t := by
  refine requirePresent_effect (fun hp t h => ?_) h
  obtain ⟨hn, h⟩ := requireNoText_next h
  exact hk hp hn _ t h

/-- Writing storage after the buffer is drained. -/
theorem Effect.interlockedWrite {w : Nat} (a : Dword) (n : Nat) (v : BitVec w)
    (hp : s.present (s.operand a n) = true) (hn : ∀ x ∈ s.operand a n, s.hasText x = false) :
    Effect s (s.drainAll.writeStorage a (bytesOf n v)) := by
  have h : s.drainAll.operand a (bytesOf n v).length = s.operand a n := by simp [State.operand]
  refine Effect.writeStorage a _ ?_ ?_ Effect.refl.drainAll
  · rw [h]; exact hp
  · rw [h]; exact hn

/-! ## The families -/

theorem arithmeticHigh_effect {n : Nat} {r : Reg} {a : Arith 32} (hn : n % 2 = 0)
    (h : arithmeticHigh n r a s = .next t) : Effect s t :=
  requireFacility_effect (fun _ h => complete_effect (((Effect.refl.setGrh _ _).setCc _).advance _ hn) h) h

theorem compareHigh_effect {n : Nat} {c : CondCode} (hn : n % 2 = 0) (h : compareHigh n c s = .next t) : Effect s t :=
  requireFacility_effect (fun _ h => by cases h; exact (Effect.refl.setCc _).advance _ hn) h

theorem compareHighStorage_effect {f : Word → Word → CondCode} {r1 : Reg} {d2 : Disp20} {x2 b2 : Reg}
    (h : compareHighStorage f r1 d2 x2 b2 s = .next t) : Effect s t :=
  requireFacility_effect (fun _ h => withFetch_effect (fun _ _ h => by
    cases h; exact (Effect.refl.setCc _).advance _ rfl) h) h

theorem loadHigh_effect {n : Nat} {f : Nat → Word} {r1 : Reg} {d2 : Disp20} {x2 b2 : Reg}
    (h : loadHigh n f r1 d2 x2 b2 s = .next t) : Effect s t :=
  requireFacility_effect (fun _ h => withFetch_effect (fun _ _ h => by
    cases h; exact (Effect.refl.setGrh _ _).advance _ rfl) h) h

theorem storeHigh_effect {w n : Nat} {v : BitVec w} {d2 : Disp20} {x2 b2 : Reg} (h8 : n ≤ 8)
    (h : storeHigh n v d2 x2 b2 s = .next t) : Effect s t :=
  requireFacility_effect (fun _ h => withStore_effect h8 (fun _ hu _ h => by
    cases h; exact hu.advance _ rfl) h) h

theorem loadAndUpdate32_effect {f : Word → Word → Arith 32} {r1 r3 : Reg} {d2 : Disp20} {b2 : Reg}
    (h : loadAndUpdate32 f r1 r3 d2 b2 s = .next t) : Effect s t :=
  requireFacility_effect (fun _ h => requireDesignation_effect (fun _ h => withInterlocked_effect
    (fun hp hn _ _ h => complete_effect
      ((((Effect.interlockedWrite _ _ _ hp hn).setGrl _ _).setCc _).advance _ rfl) h) h) h) h

theorem loadAndUpdate64_effect {f : Dword → Dword → Arith 64} {r1 r3 : Reg} {d2 : Disp20} {b2 : Reg}
    (h : loadAndUpdate64 f r1 r3 d2 b2 s = .next t) : Effect s t :=
  requireFacility_effect (fun _ h => requireDesignation_effect (fun _ h => withInterlocked_effect
    (fun hp hn _ _ h => complete_effect
      ((((Effect.interlockedWrite _ _ _ hp hn).setGr _ _).setCc _).advance _ rfl) h) h) h) h

theorem loadPair_effect {n : Nat} {put : State → Reg → Nat → State} {r3 : Reg} {d1 : Disp12} {b1 : Reg} {d2 : Disp12}
    {b2 : Reg} (hput : ∀ u r v, Effect s u → Effect s (put u r v)) (h : loadPair n put r3 d1 b1 d2 b2 s = .next t) :
    Effect s t :=
  requireFacility_effect (fun _ h => requireDesignation_effect (fun _ h => requirePresent_effect (fun _ _ h =>
    requirePresent_effect (fun _ _ h => by
      cases h; exact ((hput _ _ _ (hput _ _ _ Effect.refl.draw)).setCc _).advance _ rfl) h) h) h) h

theorem addToStorage_effect {w n : Nat} {f : BitVec w → BitVec w → Arith w} {i : BitVec w} {d1 : Disp20} {b1 : Reg}
    (h8 : n ≤ 8) (h : addToStorage n f i d1 b1 s = .next t) : Effect s t := by
  unfold addToStorage at h
  simp only at h
  split at h
  · exact withInterlocked_effect (fun hp hn _ _ h => complete_effect
      (((Effect.interlockedWrite _ _ _ hp hn).setCc _).advance _ rfl) h) h
  · exact withUpdate_effect (fun hp hn _ _ h => complete_effect
      (((Effect.refl.bufferStore _ _ (by simpa using h8) (by simpa using hp) (by simpa using hn)).setCc _).advance _ rfl) h) h

theorem loadOnCondition_effect {n : Nat} {put : Nat → State} {d2 : Disp20} {b2 : Reg} {m3 : Mask}
    (hput : ∀ v, Effect s (put v)) (h : loadOnCondition n put d2 b2 m3 s = .next t) : Effect s t := by
  refine requireFacility_effect (fun t h => ?_) h
  split at h
  · exact withFetch_effect (fun v _ h => by cases h; exact (hput v).advance _ rfl) h
  · exact conditionFalse_effect rfl h

theorem storeOnCondition_effect {w n : Nat} {v : BitVec w} {d2 : Disp20} {b2 : Reg} {m3 : Mask} (h8 : n ≤ 8)
    (h : storeOnCondition n v d2 b2 m3 s = .next t) : Effect s t := by
  refine requireFacility_effect (fun t h => ?_) h
  split at h
  · exact withStore_effect h8 (fun _ hu _ h => by cases h; exact hu.advance _ rfl) h
  · exact conditionFalse_effect rfl h

theorem arithmeticLow_effect {n : Nat} {r : Reg} {a : Arith 32} (hn : n % 2 = 0)
    (h : arithmeticLow n r a s = .next t) : Effect s t :=
  requireFacility_effect (fun _ h => complete_effect (((Effect.refl.setGrl _ _).setCc _).advance _ hn) h) h

theorem arithmeticFull_effect {n : Nat} {r : Reg} {a : Arith 64} (hn : n % 2 = 0)
    (h : arithmeticFull n r a s = .next t) : Effect s t :=
  requireFacility_effect (fun _ h => complete_effect (((Effect.refl.setGr _ _).setCc _).advance _ hn) h) h

theorem bcrNoOperation_effect (h : bcrNoOperation s = .next t) : Effect s t := by
  cases h; exact Effect.refl.advance _ rfl

theorem execBcr_14_0_effect (h : execBcr_14_0 s = .next t) : Effect s t := by
  unfold execBcr_14_0 at h
  split at h
  · cases h; exact Effect.refl.drainAll.advance _ rfl
  · exact bcrNoOperation_effect h

/-! ## Every instruction -/

/-- Everything an instruction can do. -/
theorem exec_effect (i : Instr) (h : exec i s = .next t) : Effect s t := by
  cases i with
  | ahhhr | ahhlr | aih | alhhhr | alhhlr | alsih | shhhr | shhlr | slhhhr | slhhlr =>
    exact arithmeticHigh_effect rfl h
  | alsihn | risbhg =>
    exact requireFacility_effect (fun _ h => by cases h; exact (Effect.refl.setGrh _ _).advance _ rfl) h
  | brcth =>
    exact requireFacility_effect (fun _ h => by
      split at h <;> cases h
      · exact (Effect.refl.setGrh _ _).advance _ rfl
      · exact (Effect.refl.setGrh _ _).branch _ rfl) h
  | chhr | chlr | cih | clhhr | clhlr | clih =>
    exact compareHigh_effect rfl h
  | chf | clhf =>
    exact compareHighStorage_effect h
  | lbh | lhh | lfh | llch | llhh =>
    exact loadHigh_effect h
  | risblg | sllk | srlk =>
    exact requireFacility_effect (fun _ h => by cases h; exact (Effect.refl.setGrl _ _).advance _ rfl) h
  | stch | sthh | stfh =>
    exact storeHigh_effect (by decide) h
  | laa | laal | lan | lax | lao =>
    exact loadAndUpdate32_effect h
  | laag | laalg | lang | laxg | laog =>
    exact loadAndUpdate64_effect h
  | lpd =>
    exact loadPair_effect (put := State.putLow) (fun _ _ _ h => h.setGrl _ _) h
  | lpdg =>
    exact loadPair_effect (put := State.putFull) (fun _ _ _ h => h.setGr _ _) h
  | asi | agsi | alsi | algsi =>
    exact addToStorage_effect (by decide) h
  | locr =>
    exact requireFacility_effect (fun _ h => by
      cases h
      refine Effect.advance _ rfl ?_
      split
      · exact Effect.refl.setGrl _ _
      · exact Effect.refl) h
  | locgr =>
    exact requireFacility_effect (fun _ h => by
      cases h
      refine Effect.advance _ rfl ?_
      split
      · exact Effect.refl.setGr _ _
      · exact Effect.refl) h
  | loc r1 d2 b2 m3 =>
    exact loadOnCondition_effect (put := fun v => s.setGrl r1 (BitVec.ofNat 32 v)) (fun _ => Effect.refl.setGrl _ _) h
  | locg r1 d2 b2 m3 =>
    exact loadOnCondition_effect (put := fun v => s.setGr r1 (BitVec.ofNat 64 v)) (fun _ => Effect.refl.setGr _ _) h
  | stoc | stocg =>
    exact storeOnCondition_effect (by decide) h
  | ark | ahik | alrk | alhsik | nrk | xrk | ork | slak | srak | srk | slrk =>
    exact arithmeticLow_effect rfl h
  | agrk | aghik | algrk | alghsik | ngrk | xgrk | ogrk | sgrk | slgrk =>
    exact arithmeticFull_effect rfl h
  | popcnt =>
    exact requireFacility_effect (fun _ h => by cases h; exact ((Effect.refl.setGr _ _).setCc _).advance _ rfl) h
  | bcr_15_0 => cases h; exact Effect.refl.drainAll.advance _ rfl
  | bcr_14_0 =>
    exact execBcr_14_0_effect h
  | cxlfbr | cdlfbr | celfbr | cxlgbr | cdlgbr | celgbr | clfxbr | clfdbr | clfebr | clgxbr | clgdbr | clgebr
  | srnmb | cxfbra | cdfbra | cefbra | cxgbra | cdgbra | cegbra | cfxbra | cfdbra | cfebra | cgxbra | cgdbra
  | cgebra | fixbra | fidbra | fiebra | ldxbra | lexbra | ledbra | cxftr | cdftr | cxlftr | cdlftr | cxlgtr
  | cdlgtr | cfxtr | cfdtr | clfxtr | clfdtr | clgxtr | clgdtr | axtra | adtra | cxgtra | cdgtra | cgxtra
  | cgdtra | dxtra | ddtra | mxtra | mdtra | sxtra | sdtra | pckmo | kmf | kmctr | kmo | pcc => cases h

/-! ## How an instruction ends -/

/-- An outcome that is a next state or the refusal of a store into program text. -/
def Result.Runs (r : Result) : Prop := (∃ t, r = .next t) ∨ r = .refused .storeIntoProgramText

theorem Result.Runs.next (t : State) : Result.Runs (.next t) := .inl ⟨t, rfl⟩

theorem suppress_runs (e : ProgramException) (n : Nat) (s : State) : Result.Runs (suppress e n s) := .next _

theorem requireFacility_runs {n : Nat} {k : Result} (hk : k.Runs) : Result.Runs (requireFacility n s k) := by
  unfold requireFacility; split <;> [exact hk; exact suppress_runs ..]

theorem requireDesignation_runs {ok : Bool} {n : Nat} {k : Result} (hk : k.Runs) :
    Result.Runs (requireDesignation ok n s k) := by
  unfold requireDesignation; split <;> [exact hk; exact suppress_runs ..]

theorem requirePresent_runs {as : List Nat} {n : Nat} {k : Result} (hk : k.Runs) :
    Result.Runs (requirePresent as n s k) := by
  unfold requirePresent; split <;> [exact hk; exact suppress_runs ..]

theorem requireNoText_runs {as : List Nat} {k : Result} (hk : k.Runs) : Result.Runs (requireNoText as s k) := by
  unfold requireNoText; split <;> [exact .inr rfl; exact hk]

theorem complete_runs (n : Nat) (o : Bool) (s t : State) : Result.Runs (complete n o s t) := by
  unfold complete; split <;> exact .next _

theorem conditionFalse_runs (a : Dword) (n il : Nat) (s : State) : Result.Runs (conditionFalse a n il s) := by
  unfold conditionFalse; simp only; split <;> exact .next _

theorem addToStorage_runs {w n : Nat} (f : BitVec w → BitVec w → Arith w) (i : BitVec w) (d1 : Disp20) (b1 : Reg) :
    Result.Runs (addToStorage n f i d1 b1 s) := by
  unfold addToStorage; simp only
  split <;> exact requirePresent_runs (requireNoText_runs (complete_runs ..))

theorem loadOnCondition_runs {n : Nat} (put : Nat → State) (d2 : Disp20) (b2 : Reg) (m3 : Mask) :
    Result.Runs (loadOnCondition n put d2 b2 m3 s) := by
  refine requireFacility_runs ?_
  split <;> [exact requirePresent_runs (.next _); exact conditionFalse_runs ..]

theorem storeOnCondition_runs {w n : Nat} (v : BitVec w) (d2 : Disp20) (b2 : Reg) (m3 : Mask) :
    Result.Runs (storeOnCondition n v d2 b2 m3 s) := by
  refine requireFacility_runs ?_
  split <;> [exact requirePresent_runs (requireNoText_runs (.next _)); exact conditionFalse_runs ..]

/-- Everything an instruction can end in: one with an effect (00_scope R5) runs in every state, and the others are refused
in every state and are not well formed (46_floating_point_extension R241, 47_message_security_assist R320). -/
theorem exec_runs (i : Instr) :
    (∀ s, Result.Runs (exec i s)) ∨ i.wellFormed = false ∧ ∃ r, ∀ s, exec i s = .refused r := by
  cases i with
  | ahhhr | ahhlr | aih | alhhhr | alhhlr | alsih | shhhr | shhlr | slhhhr | slhhlr
  | ark | ahik | alrk | alhsik | nrk | xrk | ork | slak | srak | srk | slrk
  | agrk | aghik | algrk | alghsik | ngrk | xgrk | ogrk | sgrk | slgrk =>
    exact .inl fun s => (requireFacility_runs (complete_runs ..))
  | alsihn | risbhg | risblg | sllk | srlk | chhr | chlr | cih | clhhr | clhlr | clih | popcnt | locr | locgr =>
    exact .inl fun s => (requireFacility_runs (.next _))
  | brcth =>
    refine .inl fun s => requireFacility_runs ?_
    show Result.Runs (if _ then _ else _)
    split <;> exact .next _
  | chf | clhf | lbh | lhh | lfh | llch | llhh =>
    exact .inl fun s => (requireFacility_runs (requirePresent_runs (.next _)))
  | stch | sthh | stfh => exact .inl fun s => (requireFacility_runs (requirePresent_runs (requireNoText_runs (.next _))))
  | laa | laal | lan | lax | lao | laag | laalg | lang | laxg | laog =>
    exact .inl fun s => (requireFacility_runs (requireDesignation_runs (requirePresent_runs
      (requireNoText_runs (complete_runs ..)))))
  | lpd | lpdg =>
    exact .inl fun s => (requireFacility_runs (requireDesignation_runs (requirePresent_runs (requirePresent_runs (.next _)))))
  | asi | agsi | alsi | algsi => exact .inl fun s => (addToStorage_runs ..)
  | loc | locg => exact .inl fun s => (loadOnCondition_runs ..)
  | stoc | stocg => exact .inl fun s => (storeOnCondition_runs ..)
  | bcr_15_0 => exact .inl fun s => (.next _)
  | bcr_14_0 => exact .inl fun s => (by show Result.Runs (execBcr_14_0 s); unfold execBcr_14_0; split <;> exact .next _)
  | pckmo | kmf | kmctr | kmo | pcc => exact .inr ⟨rfl, _, fun _ => rfl⟩
  | cxlfbr | cdlfbr | celfbr | cxlgbr | cdlgbr | celgbr | clfxbr | clfdbr | clfebr | clgxbr | clgdbr | clgebr
  | srnmb | cxfbra | cdfbra | cefbra | cxgbra | cdgbra | cegbra | cfxbra | cfdbra | cfebra | cgxbra | cgdbra
  | cgebra | fixbra | fidbra | fiebra | ldxbra | lexbra | ledbra | cxftr | cdftr | cxlftr | cdlftr | cxlgtr
  | cdlgtr | cfxtr | cfdtr | clfxtr | clfdtr | clgxtr | clgdtr | axtra | adtra | cxgtra | cdgtra | cgxtra
  | cgdtra | dxtra | ddtra | mxtra | mdtra | sxtra | sdtra => exact .inr ⟨rfl, _, fun _ => rfl⟩

/-! ## Instruction fetch -/

/-- One byte of an operand is at its wrapped address. -/
theorem State.operand_one (s : State) (a : Dword) : s.operand a 1 = [(s.cpu.psw.amode.wrap a).toNat] := by
  simp [State.operand, operandAddresses, List.range_succ]

/-- What a length says: pc is even, the first byte is fetchable, and its first bits give the length. -/
theorem State.fetchedLength_some {s : State} {n : Nat} (h : s.fetchedLength = some n) :
    s.cpu.psw.pc.toNat % 2 = 0 ∧ s.fetchable (s.cpu.psw.amode.wrap s.cpu.psw.pc).toNat = true ∧
      n = instructionLength (Memory.read s.storage (s.cpu.psw.amode.wrap s.cpu.psw.pc).toNat) := by
  simp only [State.fetchedLength, State.operand_one] at h
  split at h
  · rename_i hc
    cases h
    simpa using hc
  · cases h

/-- What a fetch that answers bytes says: they are those of the length at pc, each fetchable. -/
theorem State.fetchInstruction_ok {s : State} {bs : List Byte} (h : s.fetchInstruction = .ok bs) :
    ∃ n, s.fetchedLength = some n ∧ (s.operand s.cpu.psw.pc n).all s.fetchable = true ∧
      bs = (s.operand s.cpu.psw.pc n).map (Memory.read s.storage) := by
  unfold State.fetchInstruction at h
  split at h
  · cases h
  · split at h
    · cases h
    · simp only at h
      split at h <;> cases h
      exact ⟨_, ‹_›, ‹_›, rfl⟩

end Sys2Proof.Machine
end

