-- ==== Sys2Proof/Laws/PerInstr.lean ====
section
/-! SUPPORT. Statements made once for each instruction. -/

namespace Sys2Proof.Laws

/-- The first byte of an instruction's encoding gives the encoding's length (30_encoding R91). -/
def EncodedLength.Statement (i : Instr) : Prop :=
  ∃ b rest, encode i = b :: rest ∧ (encode i).length = instructionLength b

/-- The length that the first byte of some bytes gives. -/
theorem length_of_first {w : Nat} (n : Nat) (v : BitVec w) (b c : Byte) (hb : b = c) (hc : instructionLength c = n) :
    (bytesOf n v).length = instructionLength b := by
  rw [length_bytesOf, hb, hc]

theorem EncodedLength.ahhhr (r1 r2 r3 : Reg) : EncodedLength.Statement (.ahhhr r1 r2 r3) :=
  ⟨_, _, rfl, length_of_first 4 _ _ _ (encRrfA_first ..) rfl⟩

theorem EncodedLength.ahhlr (r1 r2 r3 : Reg) : EncodedLength.Statement (.ahhlr r1 r2 r3) :=
  ⟨_, _, rfl, length_of_first 4 _ _ _ (encRrfA_first ..) rfl⟩

theorem EncodedLength.aih (r1 : Reg) (i2 : Word) : EncodedLength.Statement (.aih r1 i2) :=
  ⟨_, _, rfl, length_of_first 6 _ _ _ (encRilA_first ..) rfl⟩

theorem EncodedLength.alhhhr (r1 r2 r3 : Reg) : EncodedLength.Statement (.alhhhr r1 r2 r3) :=
  ⟨_, _, rfl, length_of_first 4 _ _ _ (encRrfA_first ..) rfl⟩

theorem EncodedLength.alhhlr (r1 r2 r3 : Reg) : EncodedLength.Statement (.alhhlr r1 r2 r3) :=
  ⟨_, _, rfl, length_of_first 4 _ _ _ (encRrfA_first ..) rfl⟩

theorem EncodedLength.alsih (r1 : Reg) (i2 : Word) : EncodedLength.Statement (.alsih r1 i2) :=
  ⟨_, _, rfl, length_of_first 6 _ _ _ (encRilA_first ..) rfl⟩

theorem EncodedLength.alsihn (r1 : Reg) (i2 : Word) : EncodedLength.Statement (.alsihn r1 i2) :=
  ⟨_, _, rfl, length_of_first 6 _ _ _ (encRilA_first ..) rfl⟩

theorem EncodedLength.brcth (r1 : Reg) (ri2 : Word) : EncodedLength.Statement (.brcth r1 ri2) :=
  ⟨_, _, rfl, length_of_first 6 _ _ _ (encRilB_first ..) rfl⟩

theorem EncodedLength.chhr (r1 r2 : Reg) : EncodedLength.Statement (.chhr r1 r2) :=
  ⟨_, _, rfl, length_of_first 4 _ _ _ (encRre_first ..) rfl⟩

theorem EncodedLength.chlr (r1 r2 : Reg) : EncodedLength.Statement (.chlr r1 r2) :=
  ⟨_, _, rfl, length_of_first 4 _ _ _ (encRre_first ..) rfl⟩

theorem EncodedLength.chf (r1 : Reg) (d2 : Disp20) (x2 b2 : Reg) : EncodedLength.Statement (.chf r1 d2 x2 b2) :=
  ⟨_, _, rfl, length_of_first 6 _ _ _ (encRxy_first ..) rfl⟩

theorem EncodedLength.cih (r1 : Reg) (i2 : Word) : EncodedLength.Statement (.cih r1 i2) :=
  ⟨_, _, rfl, length_of_first 6 _ _ _ (encRilA_first ..) rfl⟩

theorem EncodedLength.clhhr (r1 r2 : Reg) : EncodedLength.Statement (.clhhr r1 r2) :=
  ⟨_, _, rfl, length_of_first 4 _ _ _ (encRre_first ..) rfl⟩

theorem EncodedLength.clhlr (r1 r2 : Reg) : EncodedLength.Statement (.clhlr r1 r2) :=
  ⟨_, _, rfl, length_of_first 4 _ _ _ (encRre_first ..) rfl⟩

theorem EncodedLength.clhf (r1 : Reg) (d2 : Disp20) (x2 b2 : Reg) : EncodedLength.Statement (.clhf r1 d2 x2 b2) :=
  ⟨_, _, rfl, length_of_first 6 _ _ _ (encRxy_first ..) rfl⟩

theorem EncodedLength.clih (r1 : Reg) (i2 : Word) : EncodedLength.Statement (.clih r1 i2) :=
  ⟨_, _, rfl, length_of_first 6 _ _ _ (encRilA_first ..) rfl⟩

theorem EncodedLength.lbh (r1 : Reg) (d2 : Disp20) (x2 b2 : Reg) : EncodedLength.Statement (.lbh r1 d2 x2 b2) :=
  ⟨_, _, rfl, length_of_first 6 _ _ _ (encRxy_first ..) rfl⟩

theorem EncodedLength.lhh (r1 : Reg) (d2 : Disp20) (x2 b2 : Reg) : EncodedLength.Statement (.lhh r1 d2 x2 b2) :=
  ⟨_, _, rfl, length_of_first 6 _ _ _ (encRxy_first ..) rfl⟩

theorem EncodedLength.lfh (r1 : Reg) (d2 : Disp20) (x2 b2 : Reg) : EncodedLength.Statement (.lfh r1 d2 x2 b2) :=
  ⟨_, _, rfl, length_of_first 6 _ _ _ (encRxy_first ..) rfl⟩

theorem EncodedLength.llch (r1 : Reg) (d2 : Disp20) (x2 b2 : Reg) : EncodedLength.Statement (.llch r1 d2 x2 b2) :=
  ⟨_, _, rfl, length_of_first 6 _ _ _ (encRxy_first ..) rfl⟩

theorem EncodedLength.llhh (r1 : Reg) (d2 : Disp20) (x2 b2 : Reg) : EncodedLength.Statement (.llhh r1 d2 x2 b2) :=
  ⟨_, _, rfl, length_of_first 6 _ _ _ (encRxy_first ..) rfl⟩

theorem EncodedLength.risbhg (r1 r2 : Reg) (i3 i4 i5 : Byte) : EncodedLength.Statement (.risbhg r1 r2 i3 i4 i5) :=
  ⟨_, _, rfl, length_of_first 6 _ _ _ (encRieF_first ..) rfl⟩

theorem EncodedLength.risblg (r1 r2 : Reg) (i3 i4 i5 : Byte) : EncodedLength.Statement (.risblg r1 r2 i3 i4 i5) :=
  ⟨_, _, rfl, length_of_first 6 _ _ _ (encRieF_first ..) rfl⟩

theorem EncodedLength.stch (r1 : Reg) (d2 : Disp20) (x2 b2 : Reg) : EncodedLength.Statement (.stch r1 d2 x2 b2) :=
  ⟨_, _, rfl, length_of_first 6 _ _ _ (encRxy_first ..) rfl⟩

theorem EncodedLength.sthh (r1 : Reg) (d2 : Disp20) (x2 b2 : Reg) : EncodedLength.Statement (.sthh r1 d2 x2 b2) :=
  ⟨_, _, rfl, length_of_first 6 _ _ _ (encRxy_first ..) rfl⟩

theorem EncodedLength.stfh (r1 : Reg) (d2 : Disp20) (x2 b2 : Reg) : EncodedLength.Statement (.stfh r1 d2 x2 b2) :=
  ⟨_, _, rfl, length_of_first 6 _ _ _ (encRxy_first ..) rfl⟩

theorem EncodedLength.shhhr (r1 r2 r3 : Reg) : EncodedLength.Statement (.shhhr r1 r2 r3) :=
  ⟨_, _, rfl, length_of_first 4 _ _ _ (encRrfA_first ..) rfl⟩

theorem EncodedLength.shhlr (r1 r2 r3 : Reg) : EncodedLength.Statement (.shhlr r1 r2 r3) :=
  ⟨_, _, rfl, length_of_first 4 _ _ _ (encRrfA_first ..) rfl⟩

theorem EncodedLength.slhhhr (r1 r2 r3 : Reg) : EncodedLength.Statement (.slhhhr r1 r2 r3) :=
  ⟨_, _, rfl, length_of_first 4 _ _ _ (encRrfA_first ..) rfl⟩

theorem EncodedLength.slhhlr (r1 r2 r3 : Reg) : EncodedLength.Statement (.slhhlr r1 r2 r3) :=
  ⟨_, _, rfl, length_of_first 4 _ _ _ (encRrfA_first ..) rfl⟩

theorem EncodedLength.laa (r1 r3 : Reg) (d2 : Disp20) (b2 : Reg) : EncodedLength.Statement (.laa r1 r3 d2 b2) :=
  ⟨_, _, rfl, length_of_first 6 _ _ _ (encRsyA_first ..) rfl⟩

theorem EncodedLength.laag (r1 r3 : Reg) (d2 : Disp20) (b2 : Reg) : EncodedLength.Statement (.laag r1 r3 d2 b2) :=
  ⟨_, _, rfl, length_of_first 6 _ _ _ (encRsyA_first ..) rfl⟩

theorem EncodedLength.laal (r1 r3 : Reg) (d2 : Disp20) (b2 : Reg) : EncodedLength.Statement (.laal r1 r3 d2 b2) :=
  ⟨_, _, rfl, length_of_first 6 _ _ _ (encRsyA_first ..) rfl⟩

theorem EncodedLength.laalg (r1 r3 : Reg) (d2 : Disp20) (b2 : Reg) : EncodedLength.Statement (.laalg r1 r3 d2 b2) :=
  ⟨_, _, rfl, length_of_first 6 _ _ _ (encRsyA_first ..) rfl⟩

theorem EncodedLength.lan (r1 r3 : Reg) (d2 : Disp20) (b2 : Reg) : EncodedLength.Statement (.lan r1 r3 d2 b2) :=
  ⟨_, _, rfl, length_of_first 6 _ _ _ (encRsyA_first ..) rfl⟩

theorem EncodedLength.lang (r1 r3 : Reg) (d2 : Disp20) (b2 : Reg) : EncodedLength.Statement (.lang r1 r3 d2 b2) :=
  ⟨_, _, rfl, length_of_first 6 _ _ _ (encRsyA_first ..) rfl⟩

theorem EncodedLength.lax (r1 r3 : Reg) (d2 : Disp20) (b2 : Reg) : EncodedLength.Statement (.lax r1 r3 d2 b2) :=
  ⟨_, _, rfl, length_of_first 6 _ _ _ (encRsyA_first ..) rfl⟩

theorem EncodedLength.laxg (r1 r3 : Reg) (d2 : Disp20) (b2 : Reg) : EncodedLength.Statement (.laxg r1 r3 d2 b2) :=
  ⟨_, _, rfl, length_of_first 6 _ _ _ (encRsyA_first ..) rfl⟩

theorem EncodedLength.lao (r1 r3 : Reg) (d2 : Disp20) (b2 : Reg) : EncodedLength.Statement (.lao r1 r3 d2 b2) :=
  ⟨_, _, rfl, length_of_first 6 _ _ _ (encRsyA_first ..) rfl⟩

theorem EncodedLength.laog (r1 r3 : Reg) (d2 : Disp20) (b2 : Reg) : EncodedLength.Statement (.laog r1 r3 d2 b2) :=
  ⟨_, _, rfl, length_of_first 6 _ _ _ (encRsyA_first ..) rfl⟩

theorem EncodedLength.lpd (r3 : Reg) (d1 : Disp12) (b1 : Reg) (d2 : Disp12) (b2 : Reg) : EncodedLength.Statement (.lpd r3 d1 b1 d2 b2) :=
  ⟨_, _, rfl, length_of_first 6 _ _ _ (encSsf_first ..) rfl⟩

theorem EncodedLength.lpdg (r3 : Reg) (d1 : Disp12) (b1 : Reg) (d2 : Disp12) (b2 : Reg) : EncodedLength.Statement (.lpdg r3 d1 b1 d2 b2) :=
  ⟨_, _, rfl, length_of_first 6 _ _ _ (encSsf_first ..) rfl⟩

theorem EncodedLength.asi (d1 : Disp20) (b1 : Reg) (i2 : Byte) : EncodedLength.Statement (.asi d1 b1 i2) :=
  ⟨_, _, rfl, length_of_first 6 _ _ _ (encSiy_first ..) rfl⟩

theorem EncodedLength.agsi (d1 : Disp20) (b1 : Reg) (i2 : Byte) : EncodedLength.Statement (.agsi d1 b1 i2) :=
  ⟨_, _, rfl, length_of_first 6 _ _ _ (encSiy_first ..) rfl⟩

theorem EncodedLength.alsi (d1 : Disp20) (b1 : Reg) (i2 : Byte) : EncodedLength.Statement (.alsi d1 b1 i2) :=
  ⟨_, _, rfl, length_of_first 6 _ _ _ (encSiy_first ..) rfl⟩

theorem EncodedLength.algsi (d1 : Disp20) (b1 : Reg) (i2 : Byte) : EncodedLength.Statement (.algsi d1 b1 i2) :=
  ⟨_, _, rfl, length_of_first 6 _ _ _ (encSiy_first ..) rfl⟩

theorem EncodedLength.locr (r1 r2 : Reg) (m3 : Mask) : EncodedLength.Statement (.locr r1 r2 m3) :=
  ⟨_, _, rfl, length_of_first 4 _ _ _ (encRrfC_first ..) rfl⟩

theorem EncodedLength.locgr (r1 r2 : Reg) (m3 : Mask) : EncodedLength.Statement (.locgr r1 r2 m3) :=
  ⟨_, _, rfl, length_of_first 4 _ _ _ (encRrfC_first ..) rfl⟩

theorem EncodedLength.loc (r1 : Reg) (d2 : Disp20) (b2 : Reg) (m3 : Mask) : EncodedLength.Statement (.loc r1 d2 b2 m3) :=
  ⟨_, _, rfl, length_of_first 6 _ _ _ (encRsyB_first ..) rfl⟩

theorem EncodedLength.locg (r1 : Reg) (d2 : Disp20) (b2 : Reg) (m3 : Mask) : EncodedLength.Statement (.locg r1 d2 b2 m3) :=
  ⟨_, _, rfl, length_of_first 6 _ _ _ (encRsyB_first ..) rfl⟩

theorem EncodedLength.stoc (r1 : Reg) (d2 : Disp20) (b2 : Reg) (m3 : Mask) : EncodedLength.Statement (.stoc r1 d2 b2 m3) :=
  ⟨_, _, rfl, length_of_first 6 _ _ _ (encRsyB_first ..) rfl⟩

theorem EncodedLength.stocg (r1 : Reg) (d2 : Disp20) (b2 : Reg) (m3 : Mask) : EncodedLength.Statement (.stocg r1 d2 b2 m3) :=
  ⟨_, _, rfl, length_of_first 6 _ _ _ (encRsyB_first ..) rfl⟩

theorem EncodedLength.ark (r1 r2 r3 : Reg) : EncodedLength.Statement (.ark r1 r2 r3) :=
  ⟨_, _, rfl, length_of_first 4 _ _ _ (encRrfA_first ..) rfl⟩

theorem EncodedLength.agrk (r1 r2 r3 : Reg) : EncodedLength.Statement (.agrk r1 r2 r3) :=
  ⟨_, _, rfl, length_of_first 4 _ _ _ (encRrfA_first ..) rfl⟩

theorem EncodedLength.ahik (r1 r3 : Reg) (i2 : Half) : EncodedLength.Statement (.ahik r1 r3 i2) :=
  ⟨_, _, rfl, length_of_first 6 _ _ _ (encRieD_first ..) rfl⟩

theorem EncodedLength.aghik (r1 r3 : Reg) (i2 : Half) : EncodedLength.Statement (.aghik r1 r3 i2) :=
  ⟨_, _, rfl, length_of_first 6 _ _ _ (encRieD_first ..) rfl⟩

theorem EncodedLength.alrk (r1 r2 r3 : Reg) : EncodedLength.Statement (.alrk r1 r2 r3) :=
  ⟨_, _, rfl, length_of_first 4 _ _ _ (encRrfA_first ..) rfl⟩

theorem EncodedLength.algrk (r1 r2 r3 : Reg) : EncodedLength.Statement (.algrk r1 r2 r3) :=
  ⟨_, _, rfl, length_of_first 4 _ _ _ (encRrfA_first ..) rfl⟩

theorem EncodedLength.alhsik (r1 r3 : Reg) (i2 : Half) : EncodedLength.Statement (.alhsik r1 r3 i2) :=
  ⟨_, _, rfl, length_of_first 6 _ _ _ (encRieD_first ..) rfl⟩

theorem EncodedLength.alghsik (r1 r3 : Reg) (i2 : Half) : EncodedLength.Statement (.alghsik r1 r3 i2) :=
  ⟨_, _, rfl, length_of_first 6 _ _ _ (encRieD_first ..) rfl⟩

theorem EncodedLength.nrk (r1 r2 r3 : Reg) : EncodedLength.Statement (.nrk r1 r2 r3) :=
  ⟨_, _, rfl, length_of_first 4 _ _ _ (encRrfA_first ..) rfl⟩

theorem EncodedLength.ngrk (r1 r2 r3 : Reg) : EncodedLength.Statement (.ngrk r1 r2 r3) :=
  ⟨_, _, rfl, length_of_first 4 _ _ _ (encRrfA_first ..) rfl⟩

theorem EncodedLength.xrk (r1 r2 r3 : Reg) : EncodedLength.Statement (.xrk r1 r2 r3) :=
  ⟨_, _, rfl, length_of_first 4 _ _ _ (encRrfA_first ..) rfl⟩

theorem EncodedLength.xgrk (r1 r2 r3 : Reg) : EncodedLength.Statement (.xgrk r1 r2 r3) :=
  ⟨_, _, rfl, length_of_first 4 _ _ _ (encRrfA_first ..) rfl⟩

theorem EncodedLength.ork (r1 r2 r3 : Reg) : EncodedLength.Statement (.ork r1 r2 r3) :=
  ⟨_, _, rfl, length_of_first 4 _ _ _ (encRrfA_first ..) rfl⟩

theorem EncodedLength.ogrk (r1 r2 r3 : Reg) : EncodedLength.Statement (.ogrk r1 r2 r3) :=
  ⟨_, _, rfl, length_of_first 4 _ _ _ (encRrfA_first ..) rfl⟩

theorem EncodedLength.slak (r1 r3 : Reg) (d2 : Disp20) (b2 : Reg) : EncodedLength.Statement (.slak r1 r3 d2 b2) :=
  ⟨_, _, rfl, length_of_first 6 _ _ _ (encRsyA_first ..) rfl⟩

theorem EncodedLength.sllk (r1 r3 : Reg) (d2 : Disp20) (b2 : Reg) : EncodedLength.Statement (.sllk r1 r3 d2 b2) :=
  ⟨_, _, rfl, length_of_first 6 _ _ _ (encRsyA_first ..) rfl⟩

theorem EncodedLength.srak (r1 r3 : Reg) (d2 : Disp20) (b2 : Reg) : EncodedLength.Statement (.srak r1 r3 d2 b2) :=
  ⟨_, _, rfl, length_of_first 6 _ _ _ (encRsyA_first ..) rfl⟩

theorem EncodedLength.srlk (r1 r3 : Reg) (d2 : Disp20) (b2 : Reg) : EncodedLength.Statement (.srlk r1 r3 d2 b2) :=
  ⟨_, _, rfl, length_of_first 6 _ _ _ (encRsyA_first ..) rfl⟩

theorem EncodedLength.srk (r1 r2 r3 : Reg) : EncodedLength.Statement (.srk r1 r2 r3) :=
  ⟨_, _, rfl, length_of_first 4 _ _ _ (encRrfA_first ..) rfl⟩

theorem EncodedLength.sgrk (r1 r2 r3 : Reg) : EncodedLength.Statement (.sgrk r1 r2 r3) :=
  ⟨_, _, rfl, length_of_first 4 _ _ _ (encRrfA_first ..) rfl⟩

theorem EncodedLength.slrk (r1 r2 r3 : Reg) : EncodedLength.Statement (.slrk r1 r2 r3) :=
  ⟨_, _, rfl, length_of_first 4 _ _ _ (encRrfA_first ..) rfl⟩

theorem EncodedLength.slgrk (r1 r2 r3 : Reg) : EncodedLength.Statement (.slgrk r1 r2 r3) :=
  ⟨_, _, rfl, length_of_first 4 _ _ _ (encRrfA_first ..) rfl⟩

theorem EncodedLength.popcnt (r1 r2 : Reg) : EncodedLength.Statement (.popcnt r1 r2) :=
  ⟨_, _, rfl, length_of_first 4 _ _ _ (encRre_first ..) rfl⟩

theorem EncodedLength.bcr_15_0 : EncodedLength.Statement (.bcr_15_0) := ⟨_, _, rfl, rfl⟩

theorem EncodedLength.bcr_14_0 : EncodedLength.Statement (.bcr_14_0) := ⟨_, _, rfl, rfl⟩

theorem EncodedLength.cxlfbr (r1 : Reg) (m3 : Mask) (r2 : Reg) (m4 : Mask) : EncodedLength.Statement (.cxlfbr r1 m3 r2 m4) :=
  ⟨_, _, rfl, length_of_first 4 _ _ _ (encRrfE_first ..) rfl⟩

theorem EncodedLength.cdlfbr (r1 : Reg) (m3 : Mask) (r2 : Reg) (m4 : Mask) : EncodedLength.Statement (.cdlfbr r1 m3 r2 m4) :=
  ⟨_, _, rfl, length_of_first 4 _ _ _ (encRrfE_first ..) rfl⟩

theorem EncodedLength.celfbr (r1 : Reg) (m3 : Mask) (r2 : Reg) (m4 : Mask) : EncodedLength.Statement (.celfbr r1 m3 r2 m4) :=
  ⟨_, _, rfl, length_of_first 4 _ _ _ (encRrfE_first ..) rfl⟩

theorem EncodedLength.cxlgbr (r1 : Reg) (m3 : Mask) (r2 : Reg) (m4 : Mask) : EncodedLength.Statement (.cxlgbr r1 m3 r2 m4) :=
  ⟨_, _, rfl, length_of_first 4 _ _ _ (encRrfE_first ..) rfl⟩

theorem EncodedLength.cdlgbr (r1 : Reg) (m3 : Mask) (r2 : Reg) (m4 : Mask) : EncodedLength.Statement (.cdlgbr r1 m3 r2 m4) :=
  ⟨_, _, rfl, length_of_first 4 _ _ _ (encRrfE_first ..) rfl⟩

theorem EncodedLength.celgbr (r1 : Reg) (m3 : Mask) (r2 : Reg) (m4 : Mask) : EncodedLength.Statement (.celgbr r1 m3 r2 m4) :=
  ⟨_, _, rfl, length_of_first 4 _ _ _ (encRrfE_first ..) rfl⟩

theorem EncodedLength.clfxbr (r1 : Reg) (m3 : Mask) (r2 : Reg) (m4 : Mask) : EncodedLength.Statement (.clfxbr r1 m3 r2 m4) :=
  ⟨_, _, rfl, length_of_first 4 _ _ _ (encRrfE_first ..) rfl⟩

theorem EncodedLength.clfdbr (r1 : Reg) (m3 : Mask) (r2 : Reg) (m4 : Mask) : EncodedLength.Statement (.clfdbr r1 m3 r2 m4) :=
  ⟨_, _, rfl, length_of_first 4 _ _ _ (encRrfE_first ..) rfl⟩

theorem EncodedLength.clfebr (r1 : Reg) (m3 : Mask) (r2 : Reg) (m4 : Mask) : EncodedLength.Statement (.clfebr r1 m3 r2 m4) :=
  ⟨_, _, rfl, length_of_first 4 _ _ _ (encRrfE_first ..) rfl⟩

theorem EncodedLength.clgxbr (r1 : Reg) (m3 : Mask) (r2 : Reg) (m4 : Mask) : EncodedLength.Statement (.clgxbr r1 m3 r2 m4) :=
  ⟨_, _, rfl, length_of_first 4 _ _ _ (encRrfE_first ..) rfl⟩

theorem EncodedLength.clgdbr (r1 : Reg) (m3 : Mask) (r2 : Reg) (m4 : Mask) : EncodedLength.Statement (.clgdbr r1 m3 r2 m4) :=
  ⟨_, _, rfl, length_of_first 4 _ _ _ (encRrfE_first ..) rfl⟩

theorem EncodedLength.clgebr (r1 : Reg) (m3 : Mask) (r2 : Reg) (m4 : Mask) : EncodedLength.Statement (.clgebr r1 m3 r2 m4) :=
  ⟨_, _, rfl, length_of_first 4 _ _ _ (encRrfE_first ..) rfl⟩

theorem EncodedLength.srnmb (d2 : Disp12) (b2 : Reg) : EncodedLength.Statement (.srnmb d2 b2) :=
  ⟨_, _, rfl, length_of_first 4 _ _ _ (encSFormat_first ..) rfl⟩

theorem EncodedLength.cxfbra (r1 : Reg) (m3 : Mask) (r2 : Reg) (m4 : Mask) : EncodedLength.Statement (.cxfbra r1 m3 r2 m4) :=
  ⟨_, _, rfl, length_of_first 4 _ _ _ (encRrfE_first ..) rfl⟩

theorem EncodedLength.cdfbra (r1 : Reg) (m3 : Mask) (r2 : Reg) (m4 : Mask) : EncodedLength.Statement (.cdfbra r1 m3 r2 m4) :=
  ⟨_, _, rfl, length_of_first 4 _ _ _ (encRrfE_first ..) rfl⟩

theorem EncodedLength.cefbra (r1 : Reg) (m3 : Mask) (r2 : Reg) (m4 : Mask) : EncodedLength.Statement (.cefbra r1 m3 r2 m4) :=
  ⟨_, _, rfl, length_of_first 4 _ _ _ (encRrfE_first ..) rfl⟩

theorem EncodedLength.cxgbra (r1 : Reg) (m3 : Mask) (r2 : Reg) (m4 : Mask) : EncodedLength.Statement (.cxgbra r1 m3 r2 m4) :=
  ⟨_, _, rfl, length_of_first 4 _ _ _ (encRrfE_first ..) rfl⟩

theorem EncodedLength.cdgbra (r1 : Reg) (m3 : Mask) (r2 : Reg) (m4 : Mask) : EncodedLength.Statement (.cdgbra r1 m3 r2 m4) :=
  ⟨_, _, rfl, length_of_first 4 _ _ _ (encRrfE_first ..) rfl⟩

theorem EncodedLength.cegbra (r1 : Reg) (m3 : Mask) (r2 : Reg) (m4 : Mask) : EncodedLength.Statement (.cegbra r1 m3 r2 m4) :=
  ⟨_, _, rfl, length_of_first 4 _ _ _ (encRrfE_first ..) rfl⟩

theorem EncodedLength.cfxbra (r1 : Reg) (m3 : Mask) (r2 : Reg) (m4 : Mask) : EncodedLength.Statement (.cfxbra r1 m3 r2 m4) :=
  ⟨_, _, rfl, length_of_first 4 _ _ _ (encRrfE_first ..) rfl⟩

theorem EncodedLength.cfdbra (r1 : Reg) (m3 : Mask) (r2 : Reg) (m4 : Mask) : EncodedLength.Statement (.cfdbra r1 m3 r2 m4) :=
  ⟨_, _, rfl, length_of_first 4 _ _ _ (encRrfE_first ..) rfl⟩

theorem EncodedLength.cfebra (r1 : Reg) (m3 : Mask) (r2 : Reg) (m4 : Mask) : EncodedLength.Statement (.cfebra r1 m3 r2 m4) :=
  ⟨_, _, rfl, length_of_first 4 _ _ _ (encRrfE_first ..) rfl⟩

theorem EncodedLength.cgxbra (r1 : Reg) (m3 : Mask) (r2 : Reg) (m4 : Mask) : EncodedLength.Statement (.cgxbra r1 m3 r2 m4) :=
  ⟨_, _, rfl, length_of_first 4 _ _ _ (encRrfE_first ..) rfl⟩

theorem EncodedLength.cgdbra (r1 : Reg) (m3 : Mask) (r2 : Reg) (m4 : Mask) : EncodedLength.Statement (.cgdbra r1 m3 r2 m4) :=
  ⟨_, _, rfl, length_of_first 4 _ _ _ (encRrfE_first ..) rfl⟩

theorem EncodedLength.cgebra (r1 : Reg) (m3 : Mask) (r2 : Reg) (m4 : Mask) : EncodedLength.Statement (.cgebra r1 m3 r2 m4) :=
  ⟨_, _, rfl, length_of_first 4 _ _ _ (encRrfE_first ..) rfl⟩

theorem EncodedLength.fixbra (r1 : Reg) (m3 : Mask) (r2 : Reg) (m4 : Mask) : EncodedLength.Statement (.fixbra r1 m3 r2 m4) :=
  ⟨_, _, rfl, length_of_first 4 _ _ _ (encRrfE_first ..) rfl⟩

theorem EncodedLength.fidbra (r1 : Reg) (m3 : Mask) (r2 : Reg) (m4 : Mask) : EncodedLength.Statement (.fidbra r1 m3 r2 m4) :=
  ⟨_, _, rfl, length_of_first 4 _ _ _ (encRrfE_first ..) rfl⟩

theorem EncodedLength.fiebra (r1 : Reg) (m3 : Mask) (r2 : Reg) (m4 : Mask) : EncodedLength.Statement (.fiebra r1 m3 r2 m4) :=
  ⟨_, _, rfl, length_of_first 4 _ _ _ (encRrfE_first ..) rfl⟩

theorem EncodedLength.ldxbra (r1 : Reg) (m3 : Mask) (r2 : Reg) (m4 : Mask) : EncodedLength.Statement (.ldxbra r1 m3 r2 m4) :=
  ⟨_, _, rfl, length_of_first 4 _ _ _ (encRrfE_first ..) rfl⟩

theorem EncodedLength.lexbra (r1 : Reg) (m3 : Mask) (r2 : Reg) (m4 : Mask) : EncodedLength.Statement (.lexbra r1 m3 r2 m4) :=
  ⟨_, _, rfl, length_of_first 4 _ _ _ (encRrfE_first ..) rfl⟩

theorem EncodedLength.ledbra (r1 : Reg) (m3 : Mask) (r2 : Reg) (m4 : Mask) : EncodedLength.Statement (.ledbra r1 m3 r2 m4) :=
  ⟨_, _, rfl, length_of_first 4 _ _ _ (encRrfE_first ..) rfl⟩

theorem EncodedLength.cxftr (r1 : Reg) (m3 : Mask) (r2 : Reg) (m4 : Mask) : EncodedLength.Statement (.cxftr r1 m3 r2 m4) :=
  ⟨_, _, rfl, length_of_first 4 _ _ _ (encRrfE_first ..) rfl⟩

theorem EncodedLength.cdftr (r1 : Reg) (m3 : Mask) (r2 : Reg) (m4 : Mask) : EncodedLength.Statement (.cdftr r1 m3 r2 m4) :=
  ⟨_, _, rfl, length_of_first 4 _ _ _ (encRrfE_first ..) rfl⟩

theorem EncodedLength.cxlftr (r1 : Reg) (m3 : Mask) (r2 : Reg) (m4 : Mask) : EncodedLength.Statement (.cxlftr r1 m3 r2 m4) :=
  ⟨_, _, rfl, length_of_first 4 _ _ _ (encRrfE_first ..) rfl⟩

theorem EncodedLength.cdlftr (r1 : Reg) (m3 : Mask) (r2 : Reg) (m4 : Mask) : EncodedLength.Statement (.cdlftr r1 m3 r2 m4) :=
  ⟨_, _, rfl, length_of_first 4 _ _ _ (encRrfE_first ..) rfl⟩

theorem EncodedLength.cxlgtr (r1 : Reg) (m3 : Mask) (r2 : Reg) (m4 : Mask) : EncodedLength.Statement (.cxlgtr r1 m3 r2 m4) :=
  ⟨_, _, rfl, length_of_first 4 _ _ _ (encRrfE_first ..) rfl⟩

theorem EncodedLength.cdlgtr (r1 : Reg) (m3 : Mask) (r2 : Reg) (m4 : Mask) : EncodedLength.Statement (.cdlgtr r1 m3 r2 m4) :=
  ⟨_, _, rfl, length_of_first 4 _ _ _ (encRrfE_first ..) rfl⟩

theorem EncodedLength.cfxtr (r1 : Reg) (m3 : Mask) (r2 : Reg) (m4 : Mask) : EncodedLength.Statement (.cfxtr r1 m3 r2 m4) :=
  ⟨_, _, rfl, length_of_first 4 _ _ _ (encRrfE_first ..) rfl⟩

theorem EncodedLength.cfdtr (r1 : Reg) (m3 : Mask) (r2 : Reg) (m4 : Mask) : EncodedLength.Statement (.cfdtr r1 m3 r2 m4) :=
  ⟨_, _, rfl, length_of_first 4 _ _ _ (encRrfE_first ..) rfl⟩

theorem EncodedLength.clfxtr (r1 : Reg) (m3 : Mask) (r2 : Reg) (m4 : Mask) : EncodedLength.Statement (.clfxtr r1 m3 r2 m4) :=
  ⟨_, _, rfl, length_of_first 4 _ _ _ (encRrfE_first ..) rfl⟩

theorem EncodedLength.clfdtr (r1 : Reg) (m3 : Mask) (r2 : Reg) (m4 : Mask) : EncodedLength.Statement (.clfdtr r1 m3 r2 m4) :=
  ⟨_, _, rfl, length_of_first 4 _ _ _ (encRrfE_first ..) rfl⟩

theorem EncodedLength.clgxtr (r1 : Reg) (m3 : Mask) (r2 : Reg) (m4 : Mask) : EncodedLength.Statement (.clgxtr r1 m3 r2 m4) :=
  ⟨_, _, rfl, length_of_first 4 _ _ _ (encRrfE_first ..) rfl⟩

theorem EncodedLength.clgdtr (r1 : Reg) (m3 : Mask) (r2 : Reg) (m4 : Mask) : EncodedLength.Statement (.clgdtr r1 m3 r2 m4) :=
  ⟨_, _, rfl, length_of_first 4 _ _ _ (encRrfE_first ..) rfl⟩

theorem EncodedLength.axtra (r1 r2 r3 : Reg) (m4 : Mask) : EncodedLength.Statement (.axtra r1 r2 r3 m4) :=
  ⟨_, _, rfl, length_of_first 4 _ _ _ (encRrfA4_first ..) rfl⟩

theorem EncodedLength.adtra (r1 r2 r3 : Reg) (m4 : Mask) : EncodedLength.Statement (.adtra r1 r2 r3 m4) :=
  ⟨_, _, rfl, length_of_first 4 _ _ _ (encRrfA4_first ..) rfl⟩

theorem EncodedLength.cxgtra (r1 : Reg) (m3 : Mask) (r2 : Reg) (m4 : Mask) : EncodedLength.Statement (.cxgtra r1 m3 r2 m4) :=
  ⟨_, _, rfl, length_of_first 4 _ _ _ (encRrfE_first ..) rfl⟩

theorem EncodedLength.cdgtra (r1 : Reg) (m3 : Mask) (r2 : Reg) (m4 : Mask) : EncodedLength.Statement (.cdgtra r1 m3 r2 m4) :=
  ⟨_, _, rfl, length_of_first 4 _ _ _ (encRrfE_first ..) rfl⟩

theorem EncodedLength.cgxtra (r1 : Reg) (m3 : Mask) (r2 : Reg) (m4 : Mask) : EncodedLength.Statement (.cgxtra r1 m3 r2 m4) :=
  ⟨_, _, rfl, length_of_first 4 _ _ _ (encRrfE_first ..) rfl⟩

theorem EncodedLength.cgdtra (r1 : Reg) (m3 : Mask) (r2 : Reg) (m4 : Mask) : EncodedLength.Statement (.cgdtra r1 m3 r2 m4) :=
  ⟨_, _, rfl, length_of_first 4 _ _ _ (encRrfE_first ..) rfl⟩

theorem EncodedLength.dxtra (r1 r2 r3 : Reg) (m4 : Mask) : EncodedLength.Statement (.dxtra r1 r2 r3 m4) :=
  ⟨_, _, rfl, length_of_first 4 _ _ _ (encRrfA4_first ..) rfl⟩

theorem EncodedLength.ddtra (r1 r2 r3 : Reg) (m4 : Mask) : EncodedLength.Statement (.ddtra r1 r2 r3 m4) :=
  ⟨_, _, rfl, length_of_first 4 _ _ _ (encRrfA4_first ..) rfl⟩

theorem EncodedLength.mxtra (r1 r2 r3 : Reg) (m4 : Mask) : EncodedLength.Statement (.mxtra r1 r2 r3 m4) :=
  ⟨_, _, rfl, length_of_first 4 _ _ _ (encRrfA4_first ..) rfl⟩

theorem EncodedLength.mdtra (r1 r2 r3 : Reg) (m4 : Mask) : EncodedLength.Statement (.mdtra r1 r2 r3 m4) :=
  ⟨_, _, rfl, length_of_first 4 _ _ _ (encRrfA4_first ..) rfl⟩

theorem EncodedLength.sxtra (r1 r2 r3 : Reg) (m4 : Mask) : EncodedLength.Statement (.sxtra r1 r2 r3 m4) :=
  ⟨_, _, rfl, length_of_first 4 _ _ _ (encRrfA4_first ..) rfl⟩

theorem EncodedLength.sdtra (r1 r2 r3 : Reg) (m4 : Mask) : EncodedLength.Statement (.sdtra r1 r2 r3 m4) :=
  ⟨_, _, rfl, length_of_first 4 _ _ _ (encRrfA4_first ..) rfl⟩

theorem EncodedLength.pckmo (r1 r2 : Reg) : EncodedLength.Statement (.pckmo r1 r2) :=
  ⟨_, _, rfl, length_of_first 4 _ _ _ (encRre_first ..) rfl⟩

theorem EncodedLength.kmf (r1 r2 : Reg) : EncodedLength.Statement (.kmf r1 r2) :=
  ⟨_, _, rfl, length_of_first 4 _ _ _ (encRre_first ..) rfl⟩

theorem EncodedLength.kmctr (r1 r2 r3 : Reg) : EncodedLength.Statement (.kmctr r1 r2 r3) :=
  ⟨_, _, rfl, length_of_first 4 _ _ _ (encRrfA_first ..) rfl⟩

theorem EncodedLength.kmo (r1 r2 : Reg) : EncodedLength.Statement (.kmo r1 r2) :=
  ⟨_, _, rfl, length_of_first 4 _ _ _ (encRre_first ..) rfl⟩

theorem EncodedLength.pcc (r1 r2 : Reg) : EncodedLength.Statement (.pcc r1 r2) :=
  ⟨_, _, rfl, length_of_first 4 _ _ _ (encRre_first ..) rfl⟩

end Sys2Proof.Laws
end

