-- ==== Sys2Proof/Tests/Slice0.lean ====
section
/-! SUPPORT. Tests. The expected results of the test_ theorems come from the spec's own vectors (95_test_vectors; each
names its vector) and, for decoding, from the words written out from the spec's encodings (30_encoding, opcode table).
The witness_ theorems each show a concrete state and operands that meet all hypotheses of the statement they are named
after, clause by clause. -/

set_option Elab.async false

open Sys2Proof Sys2Proof.Machine

namespace Sys2Proof.Tests

/-! ## Well-formedness: each check refuses an ill-formed term -/

theorem test_wellFormed_lpd_odd_pair : (Instr.lpd 9 0#12 6 0#12 7).wellFormed = false := by decide
theorem test_wellFormed_lpdg_odd_pair : (Instr.lpdg 15 0#12 6 0#12 7).wellFormed = false := by decide
theorem test_wellFormed_risbhg_i3 : (Instr.risbhg 1 2 0x20#8 0x8F#8 0x00#8).wellFormed = false := by decide
theorem test_wellFormed_risbhg_i4 : (Instr.risbhg 1 2 0x08#8 0xCF#8 0x00#8).wellFormed = false := by decide
theorem test_wellFormed_risblg_i5 : (Instr.risblg 1 2 0x08#8 0x8F#8 0x40#8).wellFormed = false := by decide
theorem test_wellFormed_accepts :
    (Instr.lpd 8 0#12 6 0#12 7).wellFormed = true ∧ (Instr.risbhg 1 2 0x08#8 0x8F#8 0x20#8).wellFormed = true := by
  decide

/-- R127 with R241 and R320: the instructions that the model refuses. -/
theorem test_wellFormed_refused :
    (Instr.cdlfbr 1 0 2 0).wellFormed = false ∧ (Instr.sdtra 1 2 3 0).wellFormed = false ∧
    (Instr.pcc 2 4).wellFormed = false := by decide

/-- R127: AHHHR 1,2,3 is well-formed text; a one in its unused bits 20-23 (R115), an LPD with an odd R3 (VI115), a
floating-point instruction, a byte too many and BCR 13,0, which has no row, are not. -/
theorem test_wellFormedText :
    wellFormedText [0xB9, 0xC8, 0x30, 0x12] = true ∧ wellFormedText [0xB9, 0xC8, 0x31, 0x12] = false ∧
    wellFormedText [0xC8, 0x94, 0x60, 0x00, 0x70, 0x00] = false ∧ wellFormedText [0xB2, 0xB8, 0x00, 0x07] = false ∧
    wellFormedText [0xB9, 0xC8, 0x30, 0x12, 0x00] = false ∧ wellFormedText [0x07, 0xD0] = false := by decide +kernel

/-! ## Decoding: one word for every row, written out from its encoding -/

/-- Too few bytes, RNSBG (X16), B9C7 (X17), AR (X12) and BCR 15,1 (X15) are no instruction of the table. -/
theorem test_decode_rejects :
    decode [] = .error .tooShort ∧ decode [0xCC, 0x18, 0xFE, 0xDC, 0xBA] = .error .tooShort ∧
    decode [0xEC, 0x12, 0x00, 0x1F, 0x00, 0x54] = .error .unknownOperationCode ∧
    decode [0xB9, 0xC7, 0x00, 0x00] = .error .unknownOperationCode ∧
    decode [0x1A, 0x12] = .error .unknownOperationCode ∧ decode [0x07, 0xF1] = .error .unknownOperationCode := by decide

/-- X18: the unused bits 20-23 of RRF are ignored. -/
theorem test_decode_unused_bits : decode [0xB9, 0xC8, 0x3F, 0x12] = .ok (.ahhhr 1 2 3) := by decide

/-- The host's table words are the bytes of the instruction, the first byte the most significant (log 27). -/
theorem test_table_word :
    decodeTableWord 32 0xB9C83012 = some (.ahhhr 1 2 3) ∧ decodeTableWord 16 0x07F0 = some .bcr_15_0 ∧
    decodeTableWord 48 0xCC5800000001 = some (.aih 5 1#32) := by decide

theorem test_decode_high_word_1 :
    decode [0xB9, 0xC8, 0x70, 0x1E] = .ok (.ahhhr 1 14 7) ∧
    decode [0xB9, 0xD8, 0x70, 0x1E] = .ok (.ahhlr 1 14 7) ∧
    decode [0xCC, 0x18, 0xFE, 0xDC, 0xBA, 0x98] = .ok (.aih 1 0xFEDCBA98#32) ∧
    decode [0xB9, 0xCA, 0x70, 0x1E] = .ok (.alhhhr 1 14 7) ∧
    decode [0xB9, 0xDA, 0x70, 0x1E] = .ok (.alhhlr 1 14 7) ∧
    decode [0xCC, 0x1A, 0xFE, 0xDC, 0xBA, 0x98] = .ok (.alsih 1 0xFEDCBA98#32) ∧
    decode [0xCC, 0x1B, 0xFE, 0xDC, 0xBA, 0x98] = .ok (.alsihn 1 0xFEDCBA98#32) ∧
    decode [0xCC, 0x16, 0xFE, 0xDC, 0xBA, 0x98] = .ok (.brcth 1 0xFEDCBA98#32) ∧
    decode [0xB9, 0xCD, 0x00, 0x1E] = .ok (.chhr 1 14) ∧
    decode [0xB9, 0xDD, 0x00, 0x1E] = .ok (.chlr 1 14) ∧
    decode [0xE3, 0x1E, 0x70, 0x01, 0x80, 0xCD] = .ok (.chf 1 0x80001#20 14 7) ∧
    decode [0xCC, 0x1D, 0xFE, 0xDC, 0xBA, 0x98] = .ok (.cih 1 0xFEDCBA98#32) ∧
    decode [0xB9, 0xCF, 0x00, 0x1E] = .ok (.clhhr 1 14) ∧
    decode [0xB9, 0xDF, 0x00, 0x1E] = .ok (.clhlr 1 14) := by decide

theorem test_decode_high_word_2 :
    decode [0xE3, 0x1E, 0x7F, 0xFD, 0xFF, 0xCF] = .ok (.clhf 1 0xFFFFD#20 14 7) ∧
    decode [0xCC, 0x1F, 0xFE, 0xDC, 0xBA, 0x98] = .ok (.clih 1 0xFEDCBA98#32) ∧
    decode [0xE3, 0x1E, 0x70, 0x01, 0x80, 0xC0] = .ok (.lbh 1 0x80001#20 14 7) ∧
    decode [0xE3, 0x1E, 0x7F, 0xFD, 0xFF, 0xC4] = .ok (.lhh 1 0xFFFFD#20 14 7) ∧
    decode [0xE3, 0x1E, 0x7F, 0xFE, 0x7F, 0xCA] = .ok (.lfh 1 0x7FFFE#20 14 7) ∧
    decode [0xE3, 0x1E, 0x70, 0x01, 0x80, 0xC2] = .ok (.llch 1 0x80001#20 14 7) ∧
    decode [0xE3, 0x1E, 0x7F, 0xFD, 0xFF, 0xC6] = .ok (.llhh 1 0xFFFFD#20 14 7) ∧
    decode [0xEC, 0x1E, 0x1C, 0x8F, 0x20, 0x5D] = .ok (.risbhg 1 14 0x1C#8 0x8F#8 0x20#8) ∧
    decode [0xEC, 0x1E, 0x1C, 0x8F, 0x20, 0x51] = .ok (.risblg 1 14 0x1C#8 0x8F#8 0x20#8) ∧
    decode [0xE3, 0x1E, 0x7F, 0xFD, 0xFF, 0xC3] = .ok (.stch 1 0xFFFFD#20 14 7) ∧
    decode [0xE3, 0x1E, 0x7F, 0xFE, 0x7F, 0xC7] = .ok (.sthh 1 0x7FFFE#20 14 7) ∧
    decode [0xE3, 0x1E, 0x70, 0x01, 0x80, 0xCB] = .ok (.stfh 1 0x80001#20 14 7) ∧
    decode [0xB9, 0xC9, 0x70, 0x1E] = .ok (.shhhr 1 14 7) ∧
    decode [0xB9, 0xD9, 0x70, 0x1E] = .ok (.shhlr 1 14 7) := by decide

theorem test_decode_high_word_3 :
    decode [0xB9, 0xCB, 0x70, 0x1E] = .ok (.slhhhr 1 14 7) ∧
    decode [0xB9, 0xDB, 0x70, 0x1E] = .ok (.slhhlr 1 14 7) := by decide

theorem test_decode_interlocked_access_1 :
    decode [0xEB, 0x1E, 0x7F, 0xFE, 0x7F, 0xF8] = .ok (.laa 1 14 0x7FFFE#20 7) ∧
    decode [0xEB, 0x1E, 0x70, 0x01, 0x80, 0xE8] = .ok (.laag 1 14 0x80001#20 7) ∧
    decode [0xEB, 0x1E, 0x7F, 0xFD, 0xFF, 0xFA] = .ok (.laal 1 14 0xFFFFD#20 7) ∧
    decode [0xEB, 0x1E, 0x7F, 0xFE, 0x7F, 0xEA] = .ok (.laalg 1 14 0x7FFFE#20 7) ∧
    decode [0xEB, 0x1E, 0x70, 0x01, 0x80, 0xF4] = .ok (.lan 1 14 0x80001#20 7) ∧
    decode [0xEB, 0x1E, 0x7F, 0xFD, 0xFF, 0xE4] = .ok (.lang 1 14 0xFFFFD#20 7) ∧
    decode [0xEB, 0x1E, 0x7F, 0xFE, 0x7F, 0xF7] = .ok (.lax 1 14 0x7FFFE#20 7) ∧
    decode [0xEB, 0x1E, 0x70, 0x01, 0x80, 0xE7] = .ok (.laxg 1 14 0x80001#20 7) ∧
    decode [0xEB, 0x1E, 0x7F, 0xFD, 0xFF, 0xF6] = .ok (.lao 1 14 0xFFFFD#20 7) ∧
    decode [0xEB, 0x1E, 0x7F, 0xFE, 0x7F, 0xE6] = .ok (.laog 1 14 0x7FFFE#20 7) ∧
    decode [0xC8, 0x84, 0xEF, 0xFD, 0x70, 0x12] = .ok (.lpd 8 0xFFD#12 14 0x012#12 7) ∧
    decode [0xC8, 0x85, 0xEF, 0xFD, 0x7F, 0xFD] = .ok (.lpdg 8 0xFFD#12 14 0xFFD#12 7) ∧
    decode [0xEB, 0x81, 0x1F, 0xFE, 0x7F, 0x6A] = .ok (.asi 0x7FFFE#20 1 0x81#8) ∧
    decode [0xEB, 0x81, 0x10, 0x01, 0x80, 0x7A] = .ok (.agsi 0x80001#20 1 0x81#8) := by decide

theorem test_decode_interlocked_access_2 :
    decode [0xEB, 0x81, 0x1F, 0xFD, 0xFF, 0x6E] = .ok (.alsi 0xFFFFD#20 1 0x81#8) ∧
    decode [0xEB, 0x81, 0x1F, 0xFE, 0x7F, 0x7E] = .ok (.algsi 0x7FFFE#20 1 0x81#8) := by decide

theorem test_decode_load_store_on_condition :
    decode [0xB9, 0xF2, 0x20, 0x1E] = .ok (.locr 1 14 2#4) ∧
    decode [0xB9, 0xE2, 0x30, 0x1E] = .ok (.locgr 1 14 3#4) ∧
    decode [0xEB, 0x14, 0xEF, 0xFE, 0x7F, 0xF2] = .ok (.loc 1 0x7FFFE#20 14 4#4) ∧
    decode [0xEB, 0x15, 0xE0, 0x01, 0x80, 0xE2] = .ok (.locg 1 0x80001#20 14 5#4) ∧
    decode [0xEB, 0x16, 0xEF, 0xFD, 0xFF, 0xF3] = .ok (.stoc 1 0xFFFFD#20 14 6#4) ∧
    decode [0xEB, 0x17, 0xEF, 0xFE, 0x7F, 0xE3] = .ok (.stocg 1 0x7FFFE#20 14 7#4) := by decide

theorem test_decode_distinct_operands_1 :
    decode [0xB9, 0xF8, 0x70, 0x1E] = .ok (.ark 1 14 7) ∧
    decode [0xB9, 0xE8, 0x70, 0x1E] = .ok (.agrk 1 14 7) ∧
    decode [0xEC, 0x1E, 0x8F, 0x01, 0x00, 0xD8] = .ok (.ahik 1 14 0x8F01#16) ∧
    decode [0xEC, 0x1E, 0x8F, 0x01, 0x00, 0xD9] = .ok (.aghik 1 14 0x8F01#16) ∧
    decode [0xB9, 0xFA, 0x70, 0x1E] = .ok (.alrk 1 14 7) ∧
    decode [0xB9, 0xEA, 0x70, 0x1E] = .ok (.algrk 1 14 7) ∧
    decode [0xEC, 0x1E, 0x8F, 0x01, 0x00, 0xDA] = .ok (.alhsik 1 14 0x8F01#16) ∧
    decode [0xEC, 0x1E, 0x8F, 0x01, 0x00, 0xDB] = .ok (.alghsik 1 14 0x8F01#16) ∧
    decode [0xB9, 0xF4, 0x70, 0x1E] = .ok (.nrk 1 14 7) ∧
    decode [0xB9, 0xE4, 0x70, 0x1E] = .ok (.ngrk 1 14 7) ∧
    decode [0xB9, 0xF7, 0x70, 0x1E] = .ok (.xrk 1 14 7) ∧
    decode [0xB9, 0xE7, 0x70, 0x1E] = .ok (.xgrk 1 14 7) ∧
    decode [0xB9, 0xF6, 0x70, 0x1E] = .ok (.ork 1 14 7) ∧
    decode [0xB9, 0xE6, 0x70, 0x1E] = .ok (.ogrk 1 14 7) := by decide

theorem test_decode_distinct_operands_2 :
    decode [0xEB, 0x1E, 0x7F, 0xFE, 0x7F, 0xDD] = .ok (.slak 1 14 0x7FFFE#20 7) ∧
    decode [0xEB, 0x1E, 0x70, 0x01, 0x80, 0xDF] = .ok (.sllk 1 14 0x80001#20 7) ∧
    decode [0xEB, 0x1E, 0x7F, 0xFD, 0xFF, 0xDC] = .ok (.srak 1 14 0xFFFFD#20 7) ∧
    decode [0xEB, 0x1E, 0x7F, 0xFE, 0x7F, 0xDE] = .ok (.srlk 1 14 0x7FFFE#20 7) ∧
    decode [0xB9, 0xF9, 0x70, 0x1E] = .ok (.srk 1 14 7) ∧
    decode [0xB9, 0xE9, 0x70, 0x1E] = .ok (.sgrk 1 14 7) ∧
    decode [0xB9, 0xFB, 0x70, 0x1E] = .ok (.slrk 1 14 7) ∧
    decode [0xB9, 0xEB, 0x70, 0x1E] = .ok (.slgrk 1 14 7) := by decide

theorem test_decode_population_count :
    decode [0xB9, 0xE1, 0x00, 0x1E] = .ok (.popcnt 1 14) := by decide

theorem test_decode_miscellaneous :
    decode [0x07, 0xF0] = .ok .bcr_15_0 ∧
    decode [0x07, 0xE0] = .ok .bcr_14_0 := by decide

theorem test_decode_floating_point_1 :
    decode [0xB3, 0x92, 0x33, 0x1E] = .ok (.cxlfbr 1 3#4 14 3#4) ∧
    decode [0xB3, 0x91, 0x44, 0x1E] = .ok (.cdlfbr 1 4#4 14 4#4) ∧
    decode [0xB3, 0x90, 0x55, 0x1E] = .ok (.celfbr 1 5#4 14 5#4) ∧
    decode [0xB3, 0xA2, 0x66, 0x1E] = .ok (.cxlgbr 1 6#4 14 6#4) ∧
    decode [0xB3, 0xA1, 0x77, 0x1E] = .ok (.cdlgbr 1 7#4 14 7#4) ∧
    decode [0xB3, 0xA0, 0x88, 0x1E] = .ok (.celgbr 1 8#4 14 8#4) ∧
    decode [0xB3, 0x9E, 0x99, 0x1E] = .ok (.clfxbr 1 9#4 14 9#4) ∧
    decode [0xB3, 0x9D, 0xAA, 0x1E] = .ok (.clfdbr 1 10#4 14 10#4) ∧
    decode [0xB3, 0x9C, 0xBB, 0x1E] = .ok (.clfebr 1 11#4 14 11#4) ∧
    decode [0xB3, 0xAE, 0xCC, 0x1E] = .ok (.clgxbr 1 12#4 14 12#4) ∧
    decode [0xB3, 0xAD, 0xDD, 0x1E] = .ok (.clgdbr 1 13#4 14 13#4) ∧
    decode [0xB3, 0xAC, 0xEE, 0x1E] = .ok (.clgebr 1 14#4 14 14#4) ∧
    decode [0xB2, 0xB8, 0x1F, 0xFD] = .ok (.srnmb 0xFFD#12 1) ∧
    decode [0xB3, 0x96, 0x11, 0x1E] = .ok (.cxfbra 1 1#4 14 1#4) := by decide

theorem test_decode_floating_point_2 :
    decode [0xB3, 0x95, 0x22, 0x1E] = .ok (.cdfbra 1 2#4 14 2#4) ∧
    decode [0xB3, 0x94, 0x33, 0x1E] = .ok (.cefbra 1 3#4 14 3#4) ∧
    decode [0xB3, 0xA6, 0x44, 0x1E] = .ok (.cxgbra 1 4#4 14 4#4) ∧
    decode [0xB3, 0xA5, 0x55, 0x1E] = .ok (.cdgbra 1 5#4 14 5#4) ∧
    decode [0xB3, 0xA4, 0x66, 0x1E] = .ok (.cegbra 1 6#4 14 6#4) ∧
    decode [0xB3, 0x9A, 0x77, 0x1E] = .ok (.cfxbra 1 7#4 14 7#4) ∧
    decode [0xB3, 0x99, 0x88, 0x1E] = .ok (.cfdbra 1 8#4 14 8#4) ∧
    decode [0xB3, 0x98, 0x99, 0x1E] = .ok (.cfebra 1 9#4 14 9#4) ∧
    decode [0xB3, 0xAA, 0xAA, 0x1E] = .ok (.cgxbra 1 10#4 14 10#4) ∧
    decode [0xB3, 0xA9, 0xBB, 0x1E] = .ok (.cgdbra 1 11#4 14 11#4) ∧
    decode [0xB3, 0xA8, 0xCC, 0x1E] = .ok (.cgebra 1 12#4 14 12#4) ∧
    decode [0xB3, 0x47, 0xDD, 0x1E] = .ok (.fixbra 1 13#4 14 13#4) ∧
    decode [0xB3, 0x5F, 0xEE, 0x1E] = .ok (.fidbra 1 14#4 14 14#4) ∧
    decode [0xB3, 0x57, 0xFF, 0x1E] = .ok (.fiebra 1 15#4 14 15#4) := by decide

theorem test_decode_floating_point_3 :
    decode [0xB3, 0x45, 0x11, 0x1E] = .ok (.ldxbra 1 1#4 14 1#4) ∧
    decode [0xB3, 0x46, 0x22, 0x1E] = .ok (.lexbra 1 2#4 14 2#4) ∧
    decode [0xB3, 0x44, 0x33, 0x1E] = .ok (.ledbra 1 3#4 14 3#4) ∧
    decode [0xB9, 0x59, 0x44, 0x1E] = .ok (.cxftr 1 4#4 14 4#4) ∧
    decode [0xB9, 0x51, 0x55, 0x1E] = .ok (.cdftr 1 5#4 14 5#4) ∧
    decode [0xB9, 0x5B, 0x66, 0x1E] = .ok (.cxlftr 1 6#4 14 6#4) ∧
    decode [0xB9, 0x53, 0x77, 0x1E] = .ok (.cdlftr 1 7#4 14 7#4) ∧
    decode [0xB9, 0x5A, 0x88, 0x1E] = .ok (.cxlgtr 1 8#4 14 8#4) ∧
    decode [0xB9, 0x52, 0x99, 0x1E] = .ok (.cdlgtr 1 9#4 14 9#4) ∧
    decode [0xB9, 0x49, 0xAA, 0x1E] = .ok (.cfxtr 1 10#4 14 10#4) ∧
    decode [0xB9, 0x41, 0xBB, 0x1E] = .ok (.cfdtr 1 11#4 14 11#4) ∧
    decode [0xB9, 0x4B, 0xCC, 0x1E] = .ok (.clfxtr 1 12#4 14 12#4) ∧
    decode [0xB9, 0x43, 0xDD, 0x1E] = .ok (.clfdtr 1 13#4 14 13#4) ∧
    decode [0xB9, 0x4A, 0xEE, 0x1E] = .ok (.clgxtr 1 14#4 14 14#4) := by decide

theorem test_decode_floating_point_4 :
    decode [0xB9, 0x42, 0xFF, 0x1E] = .ok (.clgdtr 1 15#4 14 15#4) ∧
    decode [0xB3, 0xDA, 0x71, 0x1E] = .ok (.axtra 1 14 7 1#4) ∧
    decode [0xB3, 0xD2, 0x72, 0x1E] = .ok (.adtra 1 14 7 2#4) ∧
    decode [0xB3, 0xF9, 0x33, 0x1E] = .ok (.cxgtra 1 3#4 14 3#4) ∧
    decode [0xB3, 0xF1, 0x44, 0x1E] = .ok (.cdgtra 1 4#4 14 4#4) ∧
    decode [0xB3, 0xE9, 0x55, 0x1E] = .ok (.cgxtra 1 5#4 14 5#4) ∧
    decode [0xB3, 0xE1, 0x66, 0x1E] = .ok (.cgdtra 1 6#4 14 6#4) ∧
    decode [0xB3, 0xD9, 0x77, 0x1E] = .ok (.dxtra 1 14 7 7#4) ∧
    decode [0xB3, 0xD1, 0x78, 0x1E] = .ok (.ddtra 1 14 7 8#4) ∧
    decode [0xB3, 0xD8, 0x79, 0x1E] = .ok (.mxtra 1 14 7 9#4) ∧
    decode [0xB3, 0xD0, 0x7A, 0x1E] = .ok (.mdtra 1 14 7 10#4) ∧
    decode [0xB3, 0xDB, 0x7B, 0x1E] = .ok (.sxtra 1 14 7 11#4) ∧
    decode [0xB3, 0xD3, 0x7C, 0x1E] = .ok (.sdtra 1 14 7 12#4) := by decide

theorem test_decode_message_security :
    decode [0xB9, 0x28, 0x00, 0x1E] = .ok (.pckmo 1 14) ∧
    decode [0xB9, 0x2A, 0x00, 0x1E] = .ok (.kmf 1 14) ∧
    decode [0xB9, 0x2D, 0x70, 0x1E] = .ok (.kmctr 1 14 7) ∧
    decode [0xB9, 0x2B, 0x00, 0x1E] = .ok (.kmo 1 14) ∧
    decode [0xB9, 0x2C, 0x00, 0x1E] = .ok (.pcc 1 14) := by decide

/-! ## One step from a launch -/

/-- A launch of one CPU with program text at `pc` in the 64-bit mode, some general registers and some bytes of
storage; the other registers and bytes are zero (70_reset_and_hazards R381). -/
def launch (pc : Dword) (text : List Byte) (grs : List (Nat × Dword)) (cells : List Host.Cell) (cc : CondCode) :
    State :=
  let s := State.reset
  { s with
    storage := Memory.writeCells (Memory.writeCells [] ((List.range text.length).map (pc.toNat + ·) |>.zip text)) cells
    cpu := { s.cpu with
      psw := { s.cpu.psw with pc := pc, cc := cc, amode := .mode64 }
      gr := grs.foldl (fun v p => v.setIfInBounds p.1 p.2) s.cpu.gr
      text := [⟨pc.toNat, text.length⟩] } }

/-- Whether one step answers a next state with these registers, bytes, condition code, instruction address and status,
all other general registers being those of the start. -/
def reaches (s : State) (grs : List (Nat × Dword)) (cells : List Host.Cell) (cc : CondCode) (pc : Dword)
    (status : CpuStatus) : Bool :=
  match step s with
  | .next t =>
    t.cpu.gr == grs.foldl (fun v p => v.setIfInBounds p.1 p.2) s.cpu.gr &&
      cells.all (fun c => Memory.read t.storage c.1 == c.2) && t.cpu.psw.cc == cc && t.cpu.psw.pc == pc &&
      t.cpu.status == status
  | _ => false

/-- A state with another PSW. -/
def withPsw (s : State) (f : Psw → Psw) : State := { s with cpu := { s.cpu with psw := f s.cpu.psw } }

/-- The fault state of an exception (60_exceptions R350). -/
def faultAt (e : ProgramException) (ia : Dword) (ilen : Nat) : CpuStatus := .faulted ⟨e, e.code, ia, some ilen⟩

/-- Whether a step is refused under this name. -/
def refuses (s : State) (e : Refusal) : Bool :=
  match step s with
  | .refused x => x == e
  | _ => false

/-- A state whose STORAGE ends at an address. -/
def endingAt (s : State) (last : Nat) : State := { s with regions := [⟨0, last⟩] }

/-- VH2: `AHHHR 1,2,3` (R131, R352 fault: fixed-point-overflow same, mask one: writes first, then the interruption). -/
theorem test_ahhhr_VH2 : reaches
    (withPsw (launch 0x1000 [0xB9, 0xC8, 0x30, 0x12]
      [(1, 0xAAAAAAAABBBBBBBB), (2, 0x7FFFFFFF11111111), (3, 0x0000000122222222)] [] 0)
          fun p => { p with fpoMask := true })
    [(1, 0x80000000BBBBBBBB)] [] 3 0x1004 (faultAt .fixedPointOverflow 0x1000 4) = true := by decide +kernel

/-- VH1: `AHHHR 1,2,3` (R131 overflow, truncated sum, mask zero). -/
theorem test_ahhhr_VH1 : reaches
    (launch 0x1000 [0xB9, 0xC8, 0x30, 0x12]
      [(1, 0xAAAAAAAABBBBBBBB), (2, 0x7FFFFFFF11111111), (3, 0x0000000122222222)] [] 0)
    [(1, 0x80000000BBBBBBBB)] [] 3 0x1004 .operating = true := by decide +kernel

/-- VH6: `AHHLR 1,2,3` (R132 high of R2 + low of R3: 16 + (-1)). -/
theorem test_ahhlr_VH6 : reaches
    (launch 0x1000 [0xB9, 0xD8, 0x30, 0x12]
      [(1, 0x0000000077777777), (2, 0x0000001099999999), (3, 0x55555555FFFFFFFF)] [] 0)
    [(1, 0x0000000F77777777)] [] 2 0x1004 .operating = true := by decide +kernel

/-- VH7: `AHHLR 8,8,8` (R132 the step of the source POPCNT sequence). -/
theorem test_ahhlr_VH7 : reaches
    (launch 0x1000 [0xB9, 0xD8, 0x80, 0x88]
      [(8, 0x0103030503050507)] [] 0)
    [(8, 0x0408080C03050507)] [] 2 0x1004 .operating = true := by decide +kernel

/-- VH9: `AIH 5,1` (R133 overflow). -/
theorem test_aih_VH9 : reaches
    (launch 0x1000 [0xCC, 0x58, 0x00, 0x00, 0x00, 0x01]
      [(5, 0x7FFFFFFF00000007)] [] 0)
    [(5, 0x8000000000000007)] [] 3 0x1006 .operating = true := by decide +kernel

/-- VH8: `AIH 5,1` (R133). -/
theorem test_aih_VH8 : reaches
    (launch 0x1000 [0xCC, 0x58, 0x00, 0x00, 0x00, 0x01]
      [(5, 0xFFFFFFFF00000007)] [] 1)
    [(5, 0x0000000000000007)] [] 0 0x1006 .operating = true := by decide +kernel

/-- VH14: `ALHHHR 1,2,3` (R134 not zero, carry). -/
theorem test_alhhhr_VH14 : reaches
    (launch 0x1000 [0xB9, 0xCA, 0x30, 0x12]
      [(1, 0x0000000000000000), (2, 0xFFFFFFFF00000000), (3, 0xFFFFFFFF00000000)] [] 0)
    [(1, 0xFFFFFFFE00000000)] [] 3 0x1004 .operating = true := by decide +kernel

/-- VH12: `ALHHHR 1,2,3` (R134 zero, carry). -/
theorem test_alhhhr_VH12 : reaches
    (launch 0x1000 [0xB9, 0xCA, 0x30, 0x12]
      [(1, 0x0000000000000000), (2, 0xFFFFFFFF00000000), (3, 0x0000000100000000)] [] 0)
    [] [] 2 0x1004 .operating = true := by decide +kernel

/-- VH15: `ALHHLR 4,2,3` (R135). -/
theorem test_alhhlr_VH15 : reaches
    (launch 0x1000 [0xB9, 0xDA, 0x30, 0x42]
      [(2, 0x8000000000000000), (3, 0x1234567880000001), (4, 0x0000000000000000)] [] 0)
    [(4, 0x0000000100000000)] [] 3 0x1004 .operating = true := by decide +kernel

/-- VH16: `ALSIH 1,-1` (R136; D29 not zero, carry (no borrow)). -/
theorem test_alsih_VH16 : reaches
    (launch 0x1000 [0xCC, 0x1A, 0xFF, 0xFF, 0xFF, 0xFF]
      [(1, 0x0000000500000000)] [] 0)
    [(1, 0x0000000400000000)] [] 3 0x1006 .operating = true := by decide +kernel

/-- VH17: `ALSIH 1,-1` (R136; D29 not zero, no carry (borrow)). -/
theorem test_alsih_VH17 : reaches
    (launch 0x1000 [0xCC, 0x1A, 0xFF, 0xFF, 0xFF, 0xFF]
      [(1, 0x0000000000000000)] [] 0)
    [(1, 0xFFFFFFFF00000000)] [] 1 0x1006 .operating = true := by decide +kernel

/-- VH20: `ALSIHN 7,-32` (R137 CC unchanged). -/
theorem test_alsihn_VH20 : reaches
    (launch 0x1000 [0xCC, 0x7B, 0xFF, 0xFF, 0xFF, 0xE0]
      [(7, 0x0000001000000000)] [] 2)
    [(7, 0xFFFFFFF000000000)] [] 2 0x1006 .operating = true := by decide +kernel

/-- VH22: `SHHHR 1,2,3` (R162 overflow). -/
theorem test_shhhr_VH22 : reaches
    (launch 0x1000 [0xB9, 0xC9, 0x30, 0x12]
      [(1, 0x0000000000000000), (2, 0x8000000000000000), (3, 0x0000000100000000)] [] 0)
    [(1, 0x7FFFFFFF00000000)] [] 3 0x1004 .operating = true := by decide +kernel

/-- VH21: `SHHHR 1,2,3` (R162). -/
theorem test_shhhr_VH21 : reaches
    (launch 0x1000 [0xB9, 0xC9, 0x30, 0x12]
      [(1, 0x0000000000000000), (2, 0x0000000500000000), (3, 0x0000000700000000)] [] 0)
    [(1, 0xFFFFFFFE00000000)] [] 1 0x1004 .operating = true := by decide +kernel

/-- VH25: `SHHLR 1,2,3` (R163). -/
theorem test_shhlr_VH25 : reaches
    (launch 0x1000 [0xB9, 0xD9, 0x30, 0x12]
      [(1, 0x0000000000000000), (2, 0x0000000A00000000), (3, 0x9999999900000003)] [] 0)
    [(1, 0x0000000700000000)] [] 2 0x1004 .operating = true := by decide +kernel

/-- VH27: `SLHHHR 1,2,3` (R164 no borrow). -/
theorem test_slhhhr_VH27 : reaches
    (launch 0x1000 [0xB9, 0xCB, 0x30, 0x12]
      [(1, 0x0000000000000000), (2, 0x0000000700000000), (3, 0x0000000500000000)] [] 0)
    [(1, 0x0000000200000000)] [] 3 0x1004 .operating = true := by decide +kernel

/-- VH26: `SLHHHR 1,2,3` (R164 borrow). -/
theorem test_slhhhr_VH26 : reaches
    (launch 0x1000 [0xB9, 0xCB, 0x30, 0x12]
      [(1, 0x0000000000000000), (2, 0x0000000500000000), (3, 0x0000000700000000)] [] 0)
    [(1, 0xFFFFFFFE00000000)] [] 1 0x1004 .operating = true := by decide +kernel

/-- VH29: `SLHHLR 1,2,3` (R165). -/
theorem test_slhhlr_VH29 : reaches
    (launch 0x1000 [0xB9, 0xDB, 0x30, 0x12]
      [(1, 0x0000000000000000), (2, 0x0000000000000000), (3, 0x0000000000000001)] [] 0)
    [(1, 0xFFFFFFFF00000000)] [] 1 0x1004 .operating = true := by decide +kernel

/-- VC30: `CHHR 1,2` (R139 -1 < 1). -/
theorem test_chhr_VC30 : reaches
    (launch 0x1000 [0xB9, 0xCD, 0x00, 0x12]
      [(1, 0xFFFFFFFF00000000), (2, 0x0000000100000000)] [] 0)
    [] [] 1 0x1004 .operating = true := by decide +kernel

/-- VC32: `CHHR 1,2` (R139 low words ignored: equal). -/
theorem test_chhr_VC32 : reaches
    (launch 0x1000 [0xB9, 0xCD, 0x00, 0x12]
      [(1, 0x0000000700000001), (2, 0x0000000700000002)] [] 3)
    [] [] 0 0x1004 .operating = true := by decide +kernel

/-- VC31: `CLHHR 1,2` (R143 same operands, logical: high). -/
theorem test_clhhr_VC31 : reaches
    (launch 0x1000 [0xB9, 0xCF, 0x00, 0x12]
      [(1, 0xFFFFFFFF00000000), (2, 0x0000000100000000)] [] 0)
    [] [] 2 0x1004 .operating = true := by decide +kernel

/-- VC33: `CHLR 3,3` (R140). -/
theorem test_chlr_VC33 : reaches
    (launch 0x1000 [0xB9, 0xDD, 0x00, 0x33]
      [(3, 0x0000000500000009)] [] 0)
    [] [] 1 0x1004 .operating = true := by decide +kernel

/-- VC34: `CHLR 1,2` (R140 0 compared with -2^31: high). -/
theorem test_chlr_VC34 : reaches
    (launch 0x1000 [0xB9, 0xDD, 0x00, 0x12]
      [(1, 0x00000000FFFFFFFF), (2, 0x7FFFFFFF80000000)] [] 0)
    [] [] 2 0x1004 .operating = true := by decide +kernel

/-- VC35: `CLHLR 1,2` (R144). -/
theorem test_clhlr_VC35 : reaches
    (launch 0x1000 [0xB9, 0xDF, 0x00, 0x12]
      [(1, 0x8000000000000000), (2, 0x000000007FFFFFFF)] [] 0)
    [] [] 2 0x1004 .operating = true := by decide +kernel

/-- VC36: `CLHLR 1,2` (R144 0 compared with 2^31: low). -/
theorem test_clhlr_VC36 : reaches
    (launch 0x1000 [0xB9, 0xDF, 0x00, 0x12]
      [(1, 0x00000000FFFFFFFF), (2, 0x7FFFFFFF80000000)] [] 0)
    [] [] 1 0x1004 .operating = true := by decide +kernel

/-- VC37: `CHF 1,0(0,2)` (R141). -/
theorem test_chf_VC37 : reaches
    (launch 0x1000 [0xE3, 0x10, 0x20, 0x00, 0x00, 0xCD]
      [(1, 0x0000001000000000), (2, 0x0000000000002000)] [(0x2000, 0x0), (0x2001, 0x0), (0x2002, 0x0), (0x2003, 0xF)] 0)
    [] [(0x2000, 0x0), (0x2001, 0x0), (0x2002, 0x0), (0x2003, 0xF)] 2 0x1006 .operating = true := by decide +kernel

/-- VC40: `CHF 1,0(0,2)` (R141 same storage, signed: 16 > -1). -/
theorem test_chf_VC40 : reaches
    (launch 0x1000 [0xE3, 0x10, 0x20, 0x00, 0x00, 0xCD]
      [(1, 0x0000001000000000), (2, 0x0000000000002000)] [(0x2000, 0xFF), (0x2001, 0xFF), (0x2002, 0xFF), (0x2003,
          0xFF)] 0)
    [] [(0x2000, 0xFF), (0x2001, 0xFF), (0x2002, 0xFF), (0x2003, 0xFF)] 2 0x1006 .operating = true := by decide +kernel

/-- VC39: `CLHF 1,0(0,2)` (R145). -/
theorem test_clhf_VC39 : reaches
    (launch 0x1000 [0xE3, 0x10, 0x20, 0x00, 0x00, 0xCF]
      [(1, 0x0000001000000000), (2, 0x0000000000002000)] [(0x2000, 0xFF), (0x2001, 0xFF), (0x2002, 0xFF), (0x2003,
          0xFF)] 0)
    [] [(0x2000, 0xFF), (0x2001, 0xFF), (0x2002, 0xFF), (0x2003, 0xFF)] 1 0x1006 .operating = true := by decide +kernel

/-- VC41: `CIH 6,0` (R142). -/
theorem test_cih_VC41 : reaches
    (launch 0x1000 [0xCC, 0x6D, 0x00, 0x00, 0x00, 0x00]
      [(6, 0x8000000000000000)] [] 0)
    [] [] 1 0x1006 .operating = true := by decide +kernel

/-- VC42: `CIH 6,-1` (R142 equal). -/
theorem test_cih_VC42 : reaches
    (launch 0x1000 [0xCC, 0x6D, 0xFF, 0xFF, 0xFF, 0xFF]
      [(6, 0xFFFFFFFF00000000)] [] 1)
    [] [] 0 0x1006 .operating = true := by decide +kernel

/-- VC43: `CLIH 6,X'7FFFFFFF'` (R146). -/
theorem test_clih_VC43 : reaches
    (launch 0x1000 [0xCC, 0x6F, 0x7F, 0xFF, 0xFF, 0xFF]
      [(6, 0x8000000000000000)] [] 0)
    [] [] 2 0x1006 .operating = true := by decide +kernel

/-- VC44: `CLIH 6,X'FFFFFFFF'` (R146 I2 unsigned: low). -/
theorem test_clih_VC44 : reaches
    (launch 0x1000 [0xCC, 0x6F, 0xFF, 0xFF, 0xFF, 0xFF]
      [(6, 0x8000000000000000)] [] 0)
    [] [] 1 0x1006 .operating = true := by decide +kernel

/-- VC45: `BRCTH 4,*-16` (R138 taken, backward). -/
theorem test_brcth_VC45 : reaches
    (launch 0x1010 [0xCC, 0x46, 0xFF, 0xFF, 0xFF, 0xF8]
      [(4, 0x00000003DEADBEEF)] [] 2)
    [(4, 0x00000002DEADBEEF)] [] 2 0x1000 .operating = true := by decide +kernel

/-- VC53: `BRCTH 4,*-16` (R138, R108 sequential update wraps modulo 2^24). -/
theorem test_brcth_VC53 : reaches
    (withPsw (launch 0xFFFFFA [0xCC, 0x46, 0xFF, 0xFF, 0xFF, 0xF8]
      [(4, 0x0000000100000000)] [] 0) fun p => { p with amode := .mode24 })
    [(4, 0x0000000000000000)] [] 0 0x0 .operating = true := by decide +kernel

/-- VL54: `LBH 1,0(0,2)` (R151). -/
theorem test_lbh_VL54 : reaches
    (launch 0x1000 [0xE3, 0x10, 0x20, 0x00, 0x00, 0xC0]
      [(1, 0x0000000012345678), (2, 0x0000000000002000)] [(0x2000, 0x80)] 1)
    [(1, 0xFFFFFF8012345678)] [(0x2000, 0x80)] 1 0x1006 .operating = true := by decide +kernel

/-- VL55: `LBH 1,0(0,2)` (R151). -/
theorem test_lbh_VL55 : reaches
    (launch 0x1000 [0xE3, 0x10, 0x20, 0x00, 0x00, 0xC0]
      [(1, 0xFFFFFFFF12345678), (2, 0x0000000000002000)] [(0x2000, 0x7F)] 0)
    [(1, 0x0000007F12345678)] [(0x2000, 0x7F)] 0 0x1006 .operating = true := by decide +kernel

/-- VL56: `LLCH 1,0(0,2)` (R154). -/
theorem test_llch_VL56 : reaches
    (launch 0x1000 [0xE3, 0x10, 0x20, 0x00, 0x00, 0xC2]
      [(1, 0xFFFFFFFF12345678), (2, 0x0000000000002000)] [(0x2000, 0x80)] 0)
    [(1, 0x0000008012345678)] [(0x2000, 0x80)] 0 0x1006 .operating = true := by decide +kernel

/-- VL57: `LHH 1,0(0,2)` (R152). -/
theorem test_lhh_VL57 : reaches
    (launch 0x1000 [0xE3, 0x10, 0x20, 0x00, 0x00, 0xC4]
      [(1, 0x0000000012345678), (2, 0x0000000000002000)] [(0x2000, 0xFF), (0x2001, 0xFE)] 0)
    [(1, 0xFFFFFFFE12345678)] [(0x2000, 0xFF), (0x2001, 0xFE)] 0 0x1006 .operating = true := by decide +kernel

/-- VL59: `LHH 1,1(0,2)` (R152, R65 odd address: allowed). -/
theorem test_lhh_VL59 : reaches
    (launch 0x1000 [0xE3, 0x10, 0x20, 0x01, 0x00, 0xC4]
      [(1, 0x0000000000000000), (2, 0x0000000000002000)] [(0x2000, 0x0), (0x2001, 0x12), (0x2002, 0x34), (0x2003,
          0x0)] 0)
    [(1, 0x0000123400000000)] [(0x2000, 0x0), (0x2001, 0x12), (0x2002, 0x34), (0x2003, 0x0)]
        0 0x1006 .operating = true := by
  decide +kernel

/-- VL58: `LLHH 1,0(0,2)` (R155). -/
theorem test_llhh_VL58 : reaches
    (launch 0x1000 [0xE3, 0x10, 0x20, 0x00, 0x00, 0xC6]
      [(1, 0x0000000012345678), (2, 0x0000000000002000)] [(0x2000, 0xFF), (0x2001, 0xFE)] 0)
    [(1, 0x0000FFFE12345678)] [(0x2000, 0xFF), (0x2001, 0xFE)] 0 0x1006 .operating = true := by decide +kernel

/-- VL60: `LFH 1,8(0,3)` (R153). -/
theorem test_lfh_VL60 : reaches
    (launch 0x1000 [0xE3, 0x10, 0x30, 0x08, 0x00, 0xCA]
      [(1, 0x0000000000000001), (3, 0x0000000000002000)] [(0x2008, 0xDE), (0x2009, 0xAD), (0x200A, 0xBE), (0x200B,
          0xEF)] 0)
    [(1, 0xDEADBEEF00000001)] [(0x2008, 0xDE), (0x2009, 0xAD), (0x200A, 0xBE), (0x200B, 0xEF)]
        0 0x1006 .operating = true := by
  decide +kernel

/-- VL66: `LFH 1,0(0,0)` (R153, R104 B2 = X2 = 0: register 0 not used; address = displacement 0). -/
theorem test_lfh_VL66 : reaches
    (launch 0x1000 [0xE3, 0x10, 0x00, 0x00, 0x00, 0xCA]
      [(0, 0x5555555555555555), (1, 0x0000000000000000)] [(0x0, 0x11), (0x1, 0x22), (0x2, 0x33), (0x3, 0x44)] 0)
    [(1, 0x1122334400000000)] [(0x0, 0x11), (0x1, 0x22), (0x2, 0x33), (0x3, 0x44)] 0 0x1006 .operating = true := by
  decide +kernel

/-- VL67: `STCH 1,0(0,2)` (R159). -/
theorem test_stch_VL67 : reaches
    (launch 0x1000 [0xE3, 0x10, 0x20, 0x00, 0x00, 0xC3]
      [(1, 0x1122334455667788), (2, 0x0000000000002000)] [(0x2000, 0x0), (0x2001, 0x0), (0x2002, 0x0), (0x2003, 0x0)] 3)
    [] [(0x2000, 0x44), (0x2001, 0x0), (0x2002, 0x0), (0x2003, 0x0)] 3 0x1006 .operating = true := by decide +kernel

/-- VL68: `STHH 1,1(0,2)` (R160 unaligned halfword). -/
theorem test_sthh_VL68 : reaches
    (launch 0x1000 [0xE3, 0x10, 0x20, 0x01, 0x00, 0xC7]
      [(1, 0x1122334455667788), (2, 0x0000000000002000)] [(0x2000, 0x0), (0x2001, 0x0), (0x2002, 0x0), (0x2003, 0x0)] 0)
    [] [(0x2000, 0x0), (0x2001, 0x33), (0x2002, 0x44), (0x2003, 0x0)] 0 0x1006 .operating = true := by decide +kernel

/-- VL69: `STFH 1,0(0,2)` (R161 byte after the operand untouched). -/
theorem test_stfh_VL69 : reaches
    (launch 0x1000 [0xE3, 0x10, 0x20, 0x00, 0x00, 0xCB]
      [(1, 0x1122334455667788), (2, 0x0000000000002000)] [(0x2000, 0x0), (0x2001, 0x0), (0x2002, 0x0), (0x2003, 0x0),
          (0x2004, 0xFF)] 0)
    [] [(0x2000, 0x11), (0x2001, 0x22), (0x2002, 0x33), (0x2003, 0x44), (0x2004, 0xFF)] 0 0x1006 .operating = true := by
  decide +kernel

/-- VT70: `RISBHG 1,2,8,15` (R157). -/
theorem test_risbhg_VT70 : reaches
    (launch 0x1000 [0xEC, 0x12, 0x08, 0x0F, 0x00, 0x5D]
      [(1, 0xFFFFFFFFFFFFFFFF), (2, 0x0123456789ABCDEF)] [] 2)
    [(1, 0xFF23FFFFFFFFFFFF)] [] 2 0x1006 .operating = true := by decide +kernel

/-- VT90: `LLCHLR 3,5` (R166, R123 extended mnemonic). -/
theorem test_risbhg_VT90 : reaches
    (launch 0x1000 [0xEC, 0x35, 0x18, 0x9F, 0x20, 0x5D]
      [(3, 0xFFFFFFFFFFFFFFFF), (5, 0x0123456789ABCDEF)] [] 1)
    [(3, 0x000000EFFFFFFFFF)] [] 1 0x1006 .operating = true := by decide +kernel

/-- VT78: `RISBLG 1,2,8,15` (R158). -/
theorem test_risblg_VT78 : reaches
    (launch 0x1000 [0xEC, 0x12, 0x08, 0x0F, 0x00, 0x51]
      [(1, 0xFFFFFFFFFFFFFFFF), (2, 0x0123456789ABCDEF)] [] 0)
    [(1, 0xFFFFFFFFFFABFFFF)] [] 0 0x1006 .operating = true := by decide +kernel

/-- VT91: `LLCLHR 3,5` (R166, R123 extended mnemonic). -/
theorem test_risblg_VT91 : reaches
    (launch 0x1000 [0xEC, 0x35, 0x18, 0x9F, 0x20, 0x51]
      [(3, 0xFFFFFFFFFFFFFFFF), (5, 0x0123456789ABCDEF)] [] 1)
    [(3, 0xFFFFFFFF00000067)] [] 1 0x1006 .operating = true := by decide +kernel

/-- VI95: `LAA 1,3,0(2)` (R171, R352 fault: fixed-point-overflow mask one: storage, R1, CC written, then fault). -/
theorem test_laa_VI95 : reaches
    (withPsw (launch 0x1000 [0xEB, 0x13, 0x20, 0x00, 0x00, 0xF8]
      [(1, 0x0000000000000000), (2, 0x0000000000002000), (3, 0x0000000000000001)] [(0x2000, 0x7F), (0x2001, 0xFF),
          (0x2002, 0xFF), (0x2003, 0xFF)] 0) fun p => { p with fpoMask := true })
    [(1, 0x000000007FFFFFFF)] [(0x2000, 0x80), (0x2001, 0x0), (0x2002, 0x0), (0x2003, 0x0)]
        3 0x1006 (faultAt .fixedPointOverflow 0x1000 6) = true := by
  decide +kernel

/-- VI92: `LAA 1,3,0(2)` (R171). -/
theorem test_laa_VI92 : reaches
    (launch 0x1000 [0xEB, 0x13, 0x20, 0x00, 0x00, 0xF8]
      [(1, 0x1111111122222222), (2, 0x0000000000002000), (3, 0x9999999900000003)] [(0x2000, 0x0), (0x2001, 0x0),
          (0x2002, 0x0), (0x2003, 0x5)] 0)
    [(1, 0x1111111100000005)] [(0x2000, 0x0), (0x2001, 0x0), (0x2002, 0x0), (0x2003, 0x8)]
        2 0x1006 .operating = true := by
  decide +kernel

/-- VI98: `LAAG 1,3,0(2)` (R172). -/
theorem test_laag_VI98 : reaches
    (launch 0x1000 [0xEB, 0x13, 0x20, 0x00, 0x00, 0xE8]
      [(1, 0x0000000000000000), (2, 0x0000000000002000), (3, 0x0000000000000001)] [(0x2000, 0x7F), (0x2001, 0xFF),
          (0x2002, 0xFF), (0x2003, 0xFF), (0x2004, 0xFF), (0x2005, 0xFF), (0x2006, 0xFF), (0x2007, 0xFF)] 0)
    [(1, 0x7FFFFFFFFFFFFFFF)] [(0x2000, 0x80), (0x2001, 0x0), (0x2002, 0x0), (0x2003, 0x0), (0x2004, 0x0), (0x2005,
        0x0), (0x2006, 0x0), (0x2007, 0x0)] 3 0x1006 .operating = true := by
  decide +kernel

/-- VI101: `LAAL 1,3,0(2)` (R173 not zero, carry). -/
theorem test_laal_VI101 : reaches
    (launch 0x1000 [0xEB, 0x13, 0x20, 0x00, 0x00, 0xFA]
      [(1, 0x0000000000000000), (2, 0x0000000000002000), (3, 0x0000000000000002)] [(0x2000, 0xFF), (0x2001, 0xFF),
          (0x2002, 0xFF), (0x2003, 0xFF)] 0)
    [(1, 0x00000000FFFFFFFF)] [(0x2000, 0x0), (0x2001, 0x0), (0x2002, 0x0), (0x2003, 0x1)]
        3 0x1006 .operating = true := by
  decide +kernel

/-- VI100: `LAAL 1,3,0(2)` (R173 zero, carry). -/
theorem test_laal_VI100 : reaches
    (launch 0x1000 [0xEB, 0x13, 0x20, 0x00, 0x00, 0xFA]
      [(1, 0x0000000000000000), (2, 0x0000000000002000), (3, 0x0000000000000001)] [(0x2000, 0xFF), (0x2001, 0xFF),
          (0x2002, 0xFF), (0x2003, 0xFF)] 0)
    [(1, 0x00000000FFFFFFFF)] [(0x2000, 0x0), (0x2001, 0x0), (0x2002, 0x0), (0x2003, 0x0)]
        2 0x1006 .operating = true := by
  decide +kernel

/-- VI102: `LAALG 1,3,0(2)` (R174 not zero, no carry). -/
theorem test_laalg_VI102 : reaches
    (launch 0x1000 [0xEB, 0x13, 0x20, 0x00, 0x00, 0xEA]
      [(1, 0x0000000000000000), (2, 0x0000000000002000), (3, 0xFFFFFFFFFFFFFFFF)] [(0x2000, 0x0), (0x2001, 0x0),
          (0x2002, 0x0), (0x2003, 0x0), (0x2004, 0x0), (0x2005, 0x0), (0x2006, 0x0), (0x2007, 0x0)] 0)
    [] [(0x2000, 0xFF), (0x2001, 0xFF), (0x2002, 0xFF), (0x2003, 0xFF), (0x2004, 0xFF), (0x2005, 0xFF), (0x2006,
        0xFF), (0x2007, 0xFF)] 1 0x1006 .operating = true := by
  decide +kernel

/-- VI103: `LAN 1,3,0(2)` (R175). -/
theorem test_lan_VI103 : reaches
    (launch 0x1000 [0xEB, 0x13, 0x20, 0x00, 0x00, 0xF4]
      [(1, 0x0000000000000000), (2, 0x0000000000002000), (3, 0xFFFFFFFF0F0F0F0F)] [(0x2000, 0xFF), (0x2001, 0x0),
          (0x2002, 0xFF), (0x2003, 0x0)] 0)
    [(1, 0x00000000FF00FF00)] [(0x2000, 0xF), (0x2001, 0x0), (0x2002, 0xF), (0x2003, 0x0)]
        1 0x1006 .operating = true := by
  decide +kernel

/-- VI104: `LAN 1,3,0(2)` (R175 result zero). -/
theorem test_lan_VI104 : reaches
    (launch 0x1000 [0xEB, 0x13, 0x20, 0x00, 0x00, 0xF4]
      [(1, 0x0000000000000000), (2, 0x0000000000002000), (3, 0x000000000F0F0F0F)] [(0x2000, 0xF0), (0x2001, 0xF0),
          (0x2002, 0xF0), (0x2003, 0xF0)] 1)
    [(1, 0x00000000F0F0F0F0)] [(0x2000, 0x0), (0x2001, 0x0), (0x2002, 0x0), (0x2003, 0x0)]
        0 0x1006 .operating = true := by
  decide +kernel

/-- VI105: `LANG 1,3,0(2)` (R176). -/
theorem test_lang_VI105 : reaches
    (launch 0x1000 [0xEB, 0x13, 0x20, 0x00, 0x00, 0xE4]
      [(1, 0x0000000000000000), (2, 0x0000000000002000), (3, 0xFFFFFFFF00000000)] [(0x2000, 0x12), (0x2001, 0x34),
          (0x2002, 0x56), (0x2003, 0x78), (0x2004, 0x9A), (0x2005, 0xBC), (0x2006, 0xDE), (0x2007, 0xF0)] 0)
    [(1, 0x123456789ABCDEF0)] [(0x2000, 0x12), (0x2001, 0x34), (0x2002, 0x56), (0x2003, 0x78), (0x2004, 0x0),
        (0x2005, 0x0), (0x2006, 0x0), (0x2007, 0x0)] 1 0x1006 .operating = true := by
  decide +kernel

/-- VI106: `LAX 1,3,0(2)` (R177). -/
theorem test_lax_VI106 : reaches
    (launch 0x1000 [0xEB, 0x13, 0x20, 0x00, 0x00, 0xF7]
      [(1, 0x0000000000000000), (2, 0x0000000000002000), (3, 0x00000000FFFFFFFF)] [(0x2000, 0x12), (0x2001, 0x34),
          (0x2002, 0x56), (0x2003, 0x78)] 0)
    [(1, 0x0000000012345678)] [(0x2000, 0xED), (0x2001, 0xCB), (0x2002, 0xA9), (0x2003, 0x87)]
        1 0x1006 .operating = true := by
  decide +kernel

/-- VI107: `LAX 1,3,0(2)` (R177 result zero). -/
theorem test_lax_VI107 : reaches
    (launch 0x1000 [0xEB, 0x13, 0x20, 0x00, 0x00, 0xF7]
      [(1, 0x0000000000000000), (2, 0x0000000000002000), (3, 0x0000000012345678)] [(0x2000, 0x12), (0x2001, 0x34),
          (0x2002, 0x56), (0x2003, 0x78)] 1)
    [(1, 0x0000000012345678)] [(0x2000, 0x0), (0x2001, 0x0), (0x2002, 0x0), (0x2003, 0x0)]
        0 0x1006 .operating = true := by
  decide +kernel

/-- VI108: `LAXG 1,3,0(2)` (R178). -/
theorem test_laxg_VI108 : reaches
    (launch 0x1000 [0xEB, 0x13, 0x20, 0x00, 0x00, 0xE7]
      [(1, 0x0000000000000000), (2, 0x0000000000002000), (3, 0x0000000000000001)] [(0x2000, 0x0), (0x2001, 0x0),
          (0x2002, 0x0), (0x2003, 0x0), (0x2004, 0x0), (0x2005, 0x0), (0x2006, 0x0), (0x2007, 0x0)] 0)
    [] [(0x2000, 0x0), (0x2001, 0x0), (0x2002, 0x0), (0x2003, 0x0), (0x2004, 0x0), (0x2005, 0x0), (0x2006, 0x0),
        (0x2007, 0x1)] 1 0x1006 .operating = true := by
  decide +kernel

/-- VI109: `LAO 1,3,0(2)` (R179). -/
theorem test_lao_VI109 : reaches
    (launch 0x1000 [0xEB, 0x13, 0x20, 0x00, 0x00, 0xF6]
      [(1, 0x0000000000000000), (2, 0x0000000000002000), (3, 0x0000000080000000)] [(0x2000, 0x0), (0x2001, 0x0),
          (0x2002, 0x0), (0x2003, 0x1)] 0)
    [(1, 0x0000000000000001)] [(0x2000, 0x80), (0x2001, 0x0), (0x2002, 0x0), (0x2003, 0x1)]
        1 0x1006 .operating = true := by
  decide +kernel

/-- VI110: `LAO 1,3,0(2)` (R179 result zero; the store is still made). -/
theorem test_lao_VI110 : reaches
    (launch 0x1000 [0xEB, 0x13, 0x20, 0x00, 0x00, 0xF6]
      [(1, 0x0000000000000005), (2, 0x0000000000002000), (3, 0x0000000000000000)] [(0x2000, 0x0), (0x2001, 0x0),
          (0x2002, 0x0), (0x2003, 0x0)] 1)
    [(1, 0x0000000000000000)] [(0x2000, 0x0), (0x2001, 0x0), (0x2002, 0x0), (0x2003, 0x0)]
        0 0x1006 .operating = true := by
  decide +kernel

/-- VI111: `LAOG 1,3,0(2)` (R180). -/
theorem test_laog_VI111 : reaches
    (launch 0x1000 [0xEB, 0x13, 0x20, 0x00, 0x00, 0xE6]
      [(1, 0x0000000000000000), (2, 0x0000000000002000), (3, 0x8000000000000000)] [(0x2000, 0x0), (0x2001, 0x0),
          (0x2002, 0x0), (0x2003, 0x0), (0x2004, 0x0), (0x2005, 0x0), (0x2006, 0x0), (0x2007, 0x1)] 0)
    [(1, 0x0000000000000001)] [(0x2000, 0x80), (0x2001, 0x0), (0x2002, 0x0), (0x2003, 0x0), (0x2004, 0x0), (0x2005,
        0x0), (0x2006, 0x0), (0x2007, 0x1)] 1 0x1006 .operating = true := by
  decide +kernel

/-- VI119: `ASI 0(2),-128` (R183 overflow). -/
theorem test_asi_VI119 : reaches
    (launch 0x1000 [0xEB, 0x80, 0x20, 0x00, 0x00, 0x6A]
      [(2, 0x0000000000002000)] [(0x2000, 0x80), (0x2001, 0x0), (0x2002, 0x0), (0x2003, 0x0)] 0)
    [] [(0x2000, 0x7F), (0x2001, 0xFF), (0x2002, 0xFF), (0x2003, 0x80)] 3 0x1006 .operating = true := by decide +kernel

/-- VI118: `ASI 0(2),1` (R183). -/
theorem test_asi_VI118 : reaches
    (launch 0x1000 [0xEB, 0x01, 0x20, 0x00, 0x00, 0x6A]
      [(2, 0x0000000000002000)] [(0x2000, 0x0), (0x2001, 0x0), (0x2002, 0x0), (0x2003, 0xFF)] 0)
    [] [(0x2000, 0x0), (0x2001, 0x0), (0x2002, 0x1), (0x2003, 0x0)] 2 0x1006 .operating = true := by decide +kernel

/-- VI121: `AGSI 0(2),1` (R184). -/
theorem test_agsi_VI121 : reaches
    (launch 0x1000 [0xEB, 0x01, 0x20, 0x00, 0x00, 0x7A]
      [(2, 0x0000000000002000)] [(0x2000, 0xFF), (0x2001, 0xFF), (0x2002, 0xFF), (0x2003, 0xFF), (0x2004, 0xFF),
          (0x2005, 0xFF), (0x2006, 0xFF), (0x2007, 0xFF)] 2)
    [] [(0x2000, 0x0), (0x2001, 0x0), (0x2002, 0x0), (0x2003, 0x0), (0x2004, 0x0), (0x2005, 0x0), (0x2006, 0x0),
        (0x2007, 0x0)] 0 0x1006 .operating = true := by
  decide +kernel

/-- VI122: `ALSI 0(2),-1` (R185; D29). -/
theorem test_alsi_VI122 : reaches
    (launch 0x1000 [0xEB, 0xFF, 0x20, 0x00, 0x00, 0x6E]
      [(2, 0x0000000000002000)] [(0x2000, 0x0), (0x2001, 0x0), (0x2002, 0x0), (0x2003, 0x1)] 0)
    [] [(0x2000, 0x0), (0x2001, 0x0), (0x2002, 0x0), (0x2003, 0x0)] 2 0x1006 .operating = true := by decide +kernel

/-- VI123: `ALSI 0(2),-1` (R185; D29 borrow). -/
theorem test_alsi_VI123 : reaches
    (launch 0x1000 [0xEB, 0xFF, 0x20, 0x00, 0x00, 0x6E]
      [(2, 0x0000000000002000)] [(0x2000, 0x0), (0x2001, 0x0), (0x2002, 0x0), (0x2003, 0x0)] 0)
    [] [(0x2000, 0xFF), (0x2001, 0xFF), (0x2002, 0xFF), (0x2003, 0xFF)] 1 0x1006 .operating = true := by decide +kernel

/-- VI124: `ALGSI 0(2),1` (R186). -/
theorem test_algsi_VI124 : reaches
    (launch 0x1000 [0xEB, 0x01, 0x20, 0x00, 0x00, 0x7E]
      [(2, 0x0000000000002000)] [(0x2000, 0x0), (0x2001, 0x0), (0x2002, 0x0), (0x2003, 0x0), (0x2004, 0x0), (0x2005,
          0x0), (0x2006, 0x0), (0x2007, 0x0)] 0)
    [] [(0x2000, 0x0), (0x2001, 0x0), (0x2002, 0x0), (0x2003, 0x0), (0x2004, 0x0), (0x2005, 0x0), (0x2006, 0x0),
        (0x2007, 0x1)] 1 0x1006 .operating = true := by
  decide +kernel

/-- VK127: `LOCR 1,2,1` (R191, R197 mask 0001 selects CC 3). -/
theorem test_locr_VK127 : reaches
    (launch 0x1000 [0xB9, 0xF2, 0x10, 0x12]
      [(1, 0xAAAAAAAABBBBBBBB), (2, 0xCCCCCCCCDDDDDDDD)] [] 3)
    [(1, 0xAAAAAAAADDDDDDDD)] [] 3 0x1004 .operating = true := by decide +kernel

/-- VK125: `LOCR 1,2,4` (R191 LOCRL, condition true). -/
theorem test_locr_VK125 : reaches
    (launch 0x1000 [0xB9, 0xF2, 0x40, 0x12]
      [(1, 0xAAAAAAAABBBBBBBB), (2, 0xCCCCCCCCDDDDDDDD)] [] 1)
    [(1, 0xAAAAAAAADDDDDDDD)] [] 1 0x1004 .operating = true := by decide +kernel

/-- VK132: `LOCGR 1,2,13` (R192 LOCGRNH with CC 3: true (mask 1101 has bit 3)). -/
theorem test_locgr_VK132 : reaches
    (launch 0x1000 [0xB9, 0xE2, 0xD0, 0x12]
      [(1, 0xAAAAAAAABBBBBBBB), (2, 0xCCCCCCCCDDDDDDDD)] [] 3)
    [(1, 0xCCCCCCCCDDDDDDDD)] [] 3 0x1004 .operating = true := by decide +kernel

/-- VK130: `LOCGR 1,2,2` (R192 LOCGRH). -/
theorem test_locgr_VK130 : reaches
    (launch 0x1000 [0xB9, 0xE2, 0x20, 0x12]
      [(1, 0xAAAAAAAABBBBBBBB), (2, 0xCCCCCCCCDDDDDDDD)] [] 2)
    [(1, 0xCCCCCCCCDDDDDDDD)] [] 2 0x1004 .operating = true := by decide +kernel

/-- VK133: `LOC 1,8(2),4` (R193). -/
theorem test_loc_VK133 : reaches
    (launch 0x1000 [0xEB, 0x14, 0x20, 0x08, 0x00, 0xF2]
      [(1, 0xAAAAAAAABBBBBBBB), (2, 0x0000000000002000)] [(0x2008, 0x0), (0x2009, 0x0), (0x200A, 0x0), (0x200B,
          0x64), (0x200C, 0x0), (0x200D, 0x0), (0x200E, 0x0), (0x200F, 0x65)] 1)
    [(1, 0xAAAAAAAA00000064)] [(0x2008, 0x0), (0x2009, 0x0), (0x200A, 0x0), (0x200B, 0x64), (0x200C, 0x0), (0x200D,
        0x0), (0x200E, 0x0), (0x200F, 0x65)] 1 0x1006 .operating = true := by
  decide +kernel

/-- VK137: `LOC 1,9(2),8` (R193, R65 unaligned operand). -/
theorem test_loc_VK137 : reaches
    (launch 0x1000 [0xEB, 0x18, 0x20, 0x09, 0x00, 0xF2]
      [(1, 0x0000000000000000), (2, 0x0000000000002000)] [(0x2008, 0x0), (0x2009, 0x11), (0x200A, 0x22), (0x200B,
          0x33), (0x200C, 0x44)] 0)
    [(1, 0x0000000011223344)] [(0x2008, 0x0), (0x2009, 0x11), (0x200A, 0x22), (0x200B, 0x33), (0x200C, 0x44)]
        0 0x1006 .operating = true := by
  decide +kernel

/-- VK135: `LOCG 1,8(2),7` (R194 LOCGNE). -/
theorem test_locg_VK135 : reaches
    (launch 0x1000 [0xEB, 0x17, 0x20, 0x08, 0x00, 0xE2]
      [(1, 0xAAAAAAAABBBBBBBB), (2, 0x0000000000002000)] [(0x2008, 0x0), (0x2009, 0x0), (0x200A, 0x0), (0x200B,
          0x64), (0x200C, 0x0), (0x200D, 0x0), (0x200E, 0x0), (0x200F, 0x65)] 2)
    [(1, 0x0000006400000065)] [(0x2008, 0x0), (0x2009, 0x0), (0x200A, 0x0), (0x200B, 0x64), (0x200C, 0x0), (0x200D,
        0x0), (0x200E, 0x0), (0x200F, 0x65)] 2 0x1006 .operating = true := by
  decide +kernel

/-- VK136: `LOCG 1,8(2),7` (R194 false). -/
theorem test_locg_VK136 : reaches
    (launch 0x1000 [0xEB, 0x17, 0x20, 0x08, 0x00, 0xE2]
      [(1, 0xAAAAAAAABBBBBBBB), (2, 0x0000000000002000)] [(0x2008, 0x0), (0x2009, 0x0), (0x200A, 0x0), (0x200B,
          0x64), (0x200C, 0x0), (0x200D, 0x0), (0x200E, 0x0), (0x200F, 0x65)] 0)
    [] [(0x2008, 0x0), (0x2009, 0x0), (0x200A, 0x0), (0x200B, 0x64), (0x200C, 0x0), (0x200D, 0x0), (0x200E, 0x0),
        (0x200F, 0x65)] 0 0x1006 .operating = true := by
  decide +kernel

/-- VK138: `STOC 1,0(2),8` (R195 STOCE). -/
theorem test_stoc_VK138 : reaches
    (launch 0x1000 [0xEB, 0x18, 0x20, 0x00, 0x00, 0xF3]
      [(1, 0x000000000000002A), (2, 0x0000000000002000)] [(0x2000, 0xFF), (0x2001, 0xFF), (0x2002, 0xFF), (0x2003,
          0xFF)] 0)
    [] [(0x2000, 0x0), (0x2001, 0x0), (0x2002, 0x0), (0x2003, 0x2A)] 0 0x1006 .operating = true := by decide +kernel

/-- VK139: `STOC 1,0(2),8` (R195 false: no store). -/
theorem test_stoc_VK139 : reaches
    (launch 0x1000 [0xEB, 0x18, 0x20, 0x00, 0x00, 0xF3]
      [(1, 0x000000000000002A), (2, 0x0000000000002000)] [(0x2000, 0xFF), (0x2001, 0xFF), (0x2002, 0xFF), (0x2003,
          0xFF)] 1)
    [] [(0x2000, 0xFF), (0x2001, 0xFF), (0x2002, 0xFF), (0x2003, 0xFF)] 1 0x1006 .operating = true := by decide +kernel

/-- VK140: `STOCG 5,16(9),1` (R196). -/
theorem test_stocg_VK140 : reaches
    (launch 0x1000 [0xEB, 0x51, 0x90, 0x10, 0x00, 0xE3]
      [(5, 0x0102030405060708), (9, 0x0000000000002000)] [(0x2010, 0x0), (0x2011, 0x0), (0x2012, 0x0), (0x2013, 0x0),
          (0x2014, 0x0), (0x2015, 0x0), (0x2016, 0x0), (0x2017, 0x0)] 3)
    [] [(0x2010, 0x1), (0x2011, 0x2), (0x2012, 0x3), (0x2013, 0x4), (0x2014, 0x5), (0x2015, 0x6), (0x2016, 0x7),
        (0x2017, 0x8)] 3 0x1006 .operating = true := by
  decide +kernel

/-- VK141: `STOCG 5,16(9),1` (R196 false). -/
theorem test_stocg_VK141 : reaches
    (launch 0x1000 [0xEB, 0x51, 0x90, 0x10, 0x00, 0xE3]
      [(5, 0x0102030405060708), (9, 0x0000000000002000)] [(0x2010, 0x0), (0x2011, 0x0), (0x2012, 0x0), (0x2013, 0x0),
          (0x2014, 0x0), (0x2015, 0x0), (0x2016, 0x0), (0x2017, 0x0)] 0)
    [] [(0x2010, 0x0), (0x2011, 0x0), (0x2012, 0x0), (0x2013, 0x0), (0x2014, 0x0), (0x2015, 0x0), (0x2016, 0x0),
        (0x2017, 0x0)] 0 0x1006 .operating = true := by
  decide +kernel

/-- VD143: `ARK 1,2,3` (R201 overflow; high words untouched). -/
theorem test_ark_VD143 : reaches
    (launch 0x1000 [0xB9, 0xF8, 0x30, 0x12]
      [(1, 0xAAAAAAAA00000000), (2, 0x111111117FFFFFFF), (3, 0x2222222200000001)] [] 0)
    [(1, 0xAAAAAAAA80000000)] [] 3 0x1004 .operating = true := by decide +kernel

/-- VD144: `ARK 1,2,3` (R201 5 + (-5)). -/
theorem test_ark_VD144 : reaches
    (launch 0x1000 [0xB9, 0xF8, 0x30, 0x12]
      [(1, 0x0000000000000000), (2, 0x0000000000000005), (3, 0x00000000FFFFFFFB)] [] 2)
    [] [] 0 0x1004 .operating = true := by decide +kernel

/-- VD146: `AGRK 1,2,3` (R202). -/
theorem test_agrk_VD146 : reaches
    (launch 0x1000 [0xB9, 0xE8, 0x30, 0x12]
      [(1, 0x0000000000000000), (2, 0x7FFFFFFFFFFFFFFF), (3, 0x0000000000000001)] [] 0)
    [(1, 0x8000000000000000)] [] 3 0x1004 .operating = true := by decide +kernel

/-- VD147: `AGRK 1,2,3` (R202 carry crosses bit 32). -/
theorem test_agrk_VD147 : reaches
    (launch 0x1000 [0xB9, 0xE8, 0x30, 0x12]
      [(1, 0x0000000000000000), (2, 0x00000000FFFFFFFF), (3, 0x0000000000000001)] [] 0)
    [(1, 0x0000000100000000)] [] 2 0x1004 .operating = true := by decide +kernel

/-- VD149: `AHIK 1,3,32767` (R203 overflow). -/
theorem test_ahik_VD149 : reaches
    (launch 0x1000 [0xEC, 0x13, 0x7F, 0xFF, 0x00, 0xD8]
      [(1, 0x0000000000000000), (3, 0x000000007FFFFFFF)] [] 0)
    [(1, 0x0000000080007FFE)] [] 3 0x1006 .operating = true := by decide +kernel

/-- VD148: `AHIK 1,3,-1` (R203). -/
theorem test_ahik_VD148 : reaches
    (launch 0x1000 [0xEC, 0x13, 0xFF, 0xFF, 0x00, 0xD8]
      [(1, 0xAAAAAAAA00000000), (3, 0x5555555500000000)] [] 0)
    [(1, 0xAAAAAAAAFFFFFFFF)] [] 1 0x1006 .operating = true := by decide +kernel

/-- VD151: `AGHIK 1,3,-32768` (R204 overflow). -/
theorem test_aghik_VD151 : reaches
    (launch 0x1000 [0xEC, 0x13, 0x80, 0x00, 0x00, 0xD9]
      [(1, 0x0000000000000000), (3, 0x8000000000000000)] [] 0)
    [(1, 0x7FFFFFFFFFFF8000)] [] 3 0x1006 .operating = true := by decide +kernel

/-- VD150: `AGHIK 1,3,1` (R204). -/
theorem test_aghik_VD150 : reaches
    (launch 0x1000 [0xEC, 0x13, 0x00, 0x01, 0x00, 0xD9]
      [(1, 0x0000000000000000), (3, 0xFFFFFFFFFFFFFFFF)] [] 1)
    [] [] 0 0x1006 .operating = true := by decide +kernel

/-- VD153: `ALRK 1,2,3` (R205). -/
theorem test_alrk_VD153 : reaches
    (launch 0x1000 [0xB9, 0xFA, 0x30, 0x12]
      [(1, 0x0000000000000000), (2, 0x0000000080000000), (3, 0x0000000080000001)] [] 0)
    [(1, 0x0000000000000001)] [] 3 0x1004 .operating = true := by decide +kernel

/-- VD152: `ALRK 1,2,3` (R205). -/
theorem test_alrk_VD152 : reaches
    (launch 0x1000 [0xB9, 0xFA, 0x30, 0x12]
      [(1, 0x0000000000000000), (2, 0x00000000FFFFFFFF), (3, 0x0000000000000001)] [] 0)
    [] [] 2 0x1004 .operating = true := by decide +kernel

/-- VD154: `ALGRK 1,2,3` (R206). -/
theorem test_algrk_VD154 : reaches
    (launch 0x1000 [0xB9, 0xEA, 0x30, 0x12]
      [(1, 0x0000000000000000), (2, 0xFFFFFFFFFFFFFFFF), (3, 0x0000000000000001)] [] 0)
    [] [] 2 0x1004 .operating = true := by decide +kernel

/-- VD155: `ALHSIK 1,3,-1` (R207; D29). -/
theorem test_alhsik_VD155 : reaches
    (launch 0x1000 [0xEC, 0x13, 0xFF, 0xFF, 0x00, 0xDA]
      [(1, 0x0000000000000000), (3, 0x0000000000000001)] [] 0)
    [] [] 2 0x1006 .operating = true := by decide +kernel

/-- VD157: `ALHSIK 1,3,1` (R207). -/
theorem test_alhsik_VD157 : reaches
    (launch 0x1000 [0xEC, 0x13, 0x00, 0x01, 0x00, 0xDA]
      [(1, 0x0000000000000000), (3, 0x00000000FFFFFFFF)] [] 0)
    [] [] 2 0x1006 .operating = true := by decide +kernel

/-- VD158: `ALGHSIK 1,3,-1` (R208; D29 64-bit: borrow from the high word, carry out). -/
theorem test_alghsik_VD158 : reaches
    (launch 0x1000 [0xEC, 0x13, 0xFF, 0xFF, 0x00, 0xDB]
      [(1, 0x0000000000000000), (3, 0x0000000100000000)] [] 0)
    [(1, 0x00000000FFFFFFFF)] [] 3 0x1006 .operating = true := by decide +kernel

/-- VD159: `ALGHSIK 1,3,-32768` (R208; D29 borrow: no carry). -/
theorem test_alghsik_VD159 : reaches
    (launch 0x1000 [0xEC, 0x13, 0x80, 0x00, 0x00, 0xDB]
      [(1, 0x0000000000000000), (3, 0x0000000000007FFF)] [] 0)
    [(1, 0xFFFFFFFFFFFFFFFF)] [] 1 0x1006 .operating = true := by decide +kernel

/-- VD160: `NRK 1,2,3` (R209). -/
theorem test_nrk_VD160 : reaches
    (launch 0x1000 [0xB9, 0xF4, 0x30, 0x12]
      [(1, 0xAAAAAAAA00000000), (2, 0xFFFFFFFFF0F0F0F0), (3, 0xFFFFFFFF0FF00FF0)] [] 0)
    [(1, 0xAAAAAAAA00F000F0)] [] 1 0x1004 .operating = true := by decide +kernel

/-- VD161: `NRK 1,2,3` (R209 low result zero although the high words are not). -/
theorem test_nrk_VD161 : reaches
    (launch 0x1000 [0xB9, 0xF4, 0x30, 0x12]
      [(1, 0xAAAAAAAA11111111), (2, 0xFFFFFFFFF0F0F0F0), (3, 0xFFFFFFFF0F0F0F0F)] [] 1)
    [(1, 0xAAAAAAAA00000000)] [] 0 0x1004 .operating = true := by decide +kernel

/-- VD162: `NGRK 1,2,3` (R210). -/
theorem test_ngrk_VD162 : reaches
    (launch 0x1000 [0xB9, 0xE4, 0x30, 0x12]
      [(1, 0x0000000000000000), (2, 0xFFFFFFFFF0F0F0F0), (3, 0xFFFFFFFF0F0F0F0F)] [] 0)
    [(1, 0xFFFFFFFF00000000)] [] 1 0x1004 .operating = true := by decide +kernel

/-- VD163: `XRK 1,2,3` (R211). -/
theorem test_xrk_VD163 : reaches
    (launch 0x1000 [0xB9, 0xF7, 0x30, 0x12]
      [(1, 0xAAAAAAAA00000000), (2, 0x0000000012345678), (3, 0x0000000012345678)] [] 1)
    [] [] 0 0x1004 .operating = true := by decide +kernel

/-- VD164: `XGRK 1,2,3` (R212). -/
theorem test_xgrk_VD164 : reaches
    (launch 0x1000 [0xB9, 0xE7, 0x30, 0x12]
      [(1, 0x0000000000000000), (2, 0xFFFFFFFF00000000), (3, 0x00000000FFFFFFFF)] [] 0)
    [(1, 0xFFFFFFFFFFFFFFFF)] [] 1 0x1004 .operating = true := by decide +kernel

/-- VD165: `ORK 1,2,3` (R213). -/
theorem test_ork_VD165 : reaches
    (launch 0x1000 [0xB9, 0xF6, 0x30, 0x12]
      [(1, 0xAAAAAAAA00000000), (2, 0x000000000F0F0000), (3, 0x000000000000F0F0)] [] 0)
    [(1, 0xAAAAAAAA0F0FF0F0)] [] 1 0x1004 .operating = true := by decide +kernel

/-- VD166: `ORK 1,2,3` (R213). -/
theorem test_ork_VD166 : reaches
    (launch 0x1000 [0xB9, 0xF6, 0x30, 0x12]
      [(1, 0xAAAAAAAA00000001), (2, 0xFFFFFFFF00000000), (3, 0xFFFFFFFF00000000)] [] 1)
    [(1, 0xAAAAAAAA00000000)] [] 0 0x1004 .operating = true := by decide +kernel

/-- VD167: `OGRK 1,2,3` (R214). -/
theorem test_ogrk_VD167 : reaches
    (launch 0x1000 [0xB9, 0xE6, 0x30, 0x12]
      [(1, 0x0000000000000000), (2, 0x8000000000000000), (3, 0x0000000000000001)] [] 0)
    [(1, 0x8000000000000001)] [] 1 0x1004 .operating = true := by decide +kernel

/-- VD176: `SLAK 1,3,1` (R215, R352 fault: fixed-point-overflow mask one). -/
theorem test_slak_VD176 : reaches
    (withPsw (launch 0x1000 [0xEB, 0x13, 0x00, 0x01, 0x00, 0xDD]
      [(1, 0x0000000000000077), (3, 0x0000000040000000)] [] 0) fun p => { p with fpoMask := true })
    [(1, 0x0000000000000000)] [] 3 0x1006 (faultAt .fixedPointOverflow 0x1000 6) = true := by decide +kernel

/-- VD168: `SLAK 1,3,1` (R215; D9 a one leaves bit 33 of a positive number: overflow, result 0 with CC 3). -/
theorem test_slak_VD168 : reaches
    (launch 0x1000 [0xEB, 0x13, 0x00, 0x01, 0x00, 0xDD]
      [(1, 0xAAAAAAAA11111111), (3, 0x0000000040000000)] [] 0)
    [(1, 0xAAAAAAAA00000000)] [] 3 0x1006 .operating = true := by decide +kernel

/-- VD177: `SLLK 1,3,1` (R216 CC unchanged). -/
theorem test_sllk_VD177 : reaches
    (launch 0x1000 [0xEB, 0x13, 0x00, 0x01, 0x00, 0xDF]
      [(1, 0xAAAAAAAA00000000), (3, 0x0000000080000001)] [] 2)
    [(1, 0xAAAAAAAA00000002)] [] 2 0x1006 .operating = true := by decide +kernel

/-- VD178: `SLLK 1,3,32` (R216 amounts 32-63 give zero). -/
theorem test_sllk_VD178 : reaches
    (launch 0x1000 [0xEB, 0x13, 0x00, 0x20, 0x00, 0xDF]
      [(1, 0xAAAAAAAA77777777), (3, 0x00000000FFFFFFFF)] [] 2)
    [(1, 0xAAAAAAAA00000000)] [] 2 0x1006 .operating = true := by decide +kernel

/-- VD179: `SRAK 1,3,1` (R217 -7 >> 1 = -4). -/
theorem test_srak_VD179 : reaches
    (launch 0x1000 [0xEB, 0x13, 0x00, 0x01, 0x00, 0xDC]
      [(1, 0x0000000000000000), (3, 0x00000000FFFFFFF9)] [] 0)
    [(1, 0x00000000FFFFFFFC)] [] 1 0x1006 .operating = true := by decide +kernel

/-- VD181: `SRAK 1,3,63` (R217 all sign bits). -/
theorem test_srak_VD181 : reaches
    (launch 0x1000 [0xEB, 0x13, 0x00, 0x3F, 0x00, 0xDC]
      [(1, 0x0000000000000000), (3, 0x0000000080000000)] [] 0)
    [(1, 0x00000000FFFFFFFF)] [] 1 0x1006 .operating = true := by decide +kernel

/-- VD182: `SRLK 1,3,31` (R218 CC unchanged). -/
theorem test_srlk_VD182 : reaches
    (launch 0x1000 [0xEB, 0x13, 0x00, 0x1F, 0x00, 0xDE]
      [(1, 0xAAAAAAAA00000000), (3, 0x0000000080000000)] [] 3)
    [(1, 0xAAAAAAAA00000001)] [] 3 0x1006 .operating = true := by decide +kernel

/-- VD183: `SRLK 1,3,32` (R218). -/
theorem test_srlk_VD183 : reaches
    (launch 0x1000 [0xEB, 0x13, 0x00, 0x20, 0x00, 0xDE]
      [(1, 0x0000000000000077), (3, 0x0000000080000000)] [] 3)
    [(1, 0x0000000000000000)] [] 3 0x1006 .operating = true := by decide +kernel

/-- VD185: `SRK 1,2,3` (R219 overflow). -/
theorem test_srk_VD185 : reaches
    (launch 0x1000 [0xB9, 0xF9, 0x30, 0x12]
      [(1, 0x0000000000000000), (2, 0x0000000080000000), (3, 0x0000000000000001)] [] 0)
    [(1, 0x000000007FFFFFFF)] [] 3 0x1004 .operating = true := by decide +kernel

/-- VD184: `SRK 1,2,3` (R219). -/
theorem test_srk_VD184 : reaches
    (launch 0x1000 [0xB9, 0xF9, 0x30, 0x12]
      [(1, 0x0000000000000000), (2, 0x0000000000000005), (3, 0x0000000000000007)] [] 0)
    [(1, 0x00000000FFFFFFFE)] [] 1 0x1004 .operating = true := by decide +kernel

/-- VD186: `SGRK 1,2,3` (R220 0 - (-2^63) overflows). -/
theorem test_sgrk_VD186 : reaches
    (launch 0x1000 [0xB9, 0xE9, 0x30, 0x12]
      [(1, 0x0000000000000000), (2, 0x0000000000000000), (3, 0x8000000000000000)] [] 0)
    [(1, 0x8000000000000000)] [] 3 0x1004 .operating = true := by decide +kernel

/-- VD187: `SGRK 1,2,2` (R220). -/
theorem test_sgrk_VD187 : reaches
    (launch 0x1000 [0xB9, 0xE9, 0x20, 0x12]
      [(1, 0x0000000000000007), (2, 0x123456789ABCDEF0)] [] 3)
    [(1, 0x0000000000000000)] [] 0 0x1004 .operating = true := by decide +kernel

/-- VD189: `SLRK 1,2,3` (R221). -/
theorem test_slrk_VD189 : reaches
    (launch 0x1000 [0xB9, 0xFB, 0x30, 0x12]
      [(1, 0x0000000000000000), (2, 0x0000000000000005), (3, 0x0000000000000003)] [] 0)
    [(1, 0x0000000000000002)] [] 3 0x1004 .operating = true := by decide +kernel

/-- VD188: `SLRK 1,2,3` (R221). -/
theorem test_slrk_VD188 : reaches
    (launch 0x1000 [0xB9, 0xFB, 0x30, 0x12]
      [(1, 0x0000000000000000), (2, 0x0000000000000003), (3, 0x0000000000000005)] [] 0)
    [(1, 0x00000000FFFFFFFE)] [] 1 0x1004 .operating = true := by decide +kernel

/-- VD191: `SLGRK 1,2,3` (R222). -/
theorem test_slgrk_VD191 : reaches
    (launch 0x1000 [0xB9, 0xEB, 0x30, 0x12]
      [(1, 0x0000000000000000), (2, 0x0000000000000000), (3, 0x0000000000000001)] [] 0)
    [(1, 0xFFFFFFFFFFFFFFFF)] [] 1 0x1004 .operating = true := by decide +kernel

/-- VP192: `POPCNT 8,15` (R230; D14). -/
theorem test_popcnt_VP192 : reaches
    (launch 0x1000 [0xB9, 0xE1, 0x00, 0x8F]
      [(8, 0x0000000000000000), (15, 0x0123456789ABCDEF)] [] 3)
    [(8, 0x0103030503050507)] [] 1 0x1004 .operating = true := by decide +kernel

/-- VP195: `POPCNT 8,8` (R230 R1 = R2). -/
theorem test_popcnt_VP195 : reaches
    (launch 0x1000 [0xB9, 0xE1, 0x00, 0x88]
      [(8, 0x80FF7F0103070F1F)] [] 0)
    [(8, 0x0108070102030405)] [] 1 0x1004 .operating = true := by decide +kernel

/-- VP196: `BCR 15,0` (R330 no branch although the mask selects CC 2: R2 = 0; serialization). -/
theorem test_bcr_15_0_VP196 : reaches
    (launch 0x1000 [0x07, 0xF0]
      [(0, 0x0000000000001234)] [] 2)
    [] [] 2 0x1002 .operating = true := by decide +kernel

/-- VP197: `BCR 14,0` (R331 serialization only; same visible effect on one CPU). -/
theorem test_bcr_14_0_VP197 : reaches
    (launch 0x1000 [0x07, 0xE0]
      [(0, 0x0000000000001234)] [] 1)
    [] [] 1 0x1002 .operating = true := by decide +kernel

/-! ## LPD and LPDG, whatever the draw says -/

/-- VI112, VI113: both condition codes are admitted, the registers are the same. -/
theorem test_lpd_VI112_VI113 :
    (match execLpd 8 0 6 0 7 (launch 0x1000 [0xC8, 0x84, 0x60, 0x00, 0x70, 0x00]
        [(6, 0x3000), (7, 0x4000), (8, 0xAAAAAAAAAAAAAAAA), (9, 0xBBBBBBBBBBBBBBBB)]
        [(0x3003, 0x11), (0x4003, 0x22)] 0) with
      | .next t => t.gr 8 == 0xAAAAAAAA00000011 && t.gr 9 == 0xBBBBBBBB00000022 && t.cpu.psw.pc == 0x1006 &&
        (t.cpu.psw.cc == 0 || t.cpu.psw.cc == 3)
      | _ => false) = true := by
  unfold execLpd loadPair
  generalize Config.lpdAltered _ = altered
  cases altered <;> decide +kernel

/-- VI117: doublewords, R3 and R3 + 1 whole. -/
theorem test_lpdg_VI117 :
    (match execLpdg 8 0 6 8 6 (launch 0x1000 [0xC8, 0x85, 0x60, 0x00, 0x60, 0x08] [(6, 0x3000), (8, 1), (9, 2)]
        [(0x3000, 1), (0x3001, 2), (0x3002, 3), (0x3003, 4), (0x3004, 5), (0x3005, 6), (0x3006, 7), (0x3007, 8),
          (0x3008, 0x11), (0x3009, 0x12), (0x300A, 0x13), (0x300B, 0x14), (0x300C, 0x15), (0x300D, 0x16),
          (0x300E, 0x17), (0x300F, 0x18)] 0) with
      | .next t => t.gr 8 == 0x0102030405060708 && t.gr 9 == 0x1112131415161718 &&
        (t.cpu.psw.cc == 0 || t.cpu.psw.cc == 3)
      | _ => false) = true := by
  unfold execLpdg loadPair
  generalize Config.lpdAltered _ = altered
  cases altered <;> decide +kernel

/-- VI114: R3 and R3 + 1 are the base registers, and both addresses are formed first.
VI115: an odd R3 is a specification exception. -/
theorem test_lpd_VI114_VI115 :
    (match execLpd 6 0 6 0 7 (launch 0x1000 [0xC8, 0x64, 0x60, 0x00, 0x70, 0x00] [(6, 0x3000), (7, 0x4000)]
        [(0x3003, 0x11), (0x4003, 0x22)] 0) with
      | .next t => t.gr 6 == 0x11 && t.gr 7 == 0x22 && t.cpu.psw.pc == 0x1006
      | _ => false) = true ∧
    reaches (launch 0x1000 [0xC8, 0x94, 0x60, 0x00, 0x70, 0x00] [(6, 0x3000), (7, 0x4000)] [] 1)
      [] [] 1 0x1000 (faultAt .specification 0x1000 6) = true := by
  refine ⟨?_, by decide +kernel⟩
  unfold execLpd loadPair
  generalize Config.lpdAltered _ = altered
  cases altered <;> decide +kernel

/-! ## Exceptions and refusals (95_test_vectors, part 3) -/

/-- X1, X2: an operand that reaches past the end of STORAGE is not loaded in part and not stored in part. -/
theorem test_X1_X2_addressing :
    reaches (endingAt (launch 0x1000 [0xE3, 0x10, 0x20, 0x00, 0x00, 0xCA] [(2, 0x2FFE)] [(0x2FFE, 3), (0x2FFF, 4)] 0)
      0x3000) [] [] 0 0x1000 (faultAt .addressing 0x1000 6) = true ∧
    reaches (endingAt (launch 0x1000 [0xE3, 0x10, 0x20, 0x00, 0x00, 0xCB] [(1, 0xAABBCCDD00000000), (2, 0x2FFE)]
      [(0x2FFE, 3), (0x2FFF, 4)] 0) 0x3000)
      [] [(0x2FFE, 3), (0x2FFF, 4)] 0 0x1000 (faultAt .addressing 0x1000 6) = true := by
  constructor <;> decide +kernel

/-- X3, X4: aligned and absent is addressing, off its boundary and absent is specification. -/
theorem test_X3_X4_priority :
    reaches (endingAt (launch 0x1000 [0xEB, 0x13, 0x20, 0x00, 0x00, 0xF8] [(2, 0x3000), (3, 1)] [] 0) 0x3000)
      [] [] 0 0x1000 (faultAt .addressing 0x1000 6) = true ∧
    reaches (endingAt (launch 0x1000 [0xEB, 0x13, 0x20, 0x02, 0x00, 0xF8] [(2, 0x3000)] [] 0) 0x3000)
      [] [] 0 0x1000 (faultAt .specification 0x1000 6) = true := by
  constructor <;> decide +kernel

/-- X5: an odd pc. The program text ends before pc: no byte is fetched, so no ILEN (log 9). It ends after the first two
bytes: the first gives the ILEN 4 (30_encoding R91). -/
theorem test_X5_fetch :
    reaches (withPsw (launch 0x1000 [0xB9, 0xC8, 0x30, 0x12] [] [] 2) fun p => { p with pc := 0x1001 })
      [] [] 2 0x1001 (.faulted ⟨.specification, 0x0006, 0x1001, none⟩) = true ∧
    reaches (launch 0x1000 [] [] [] 2) [] [] 2 0x1000 (.faulted ⟨.addressing, 0x0005, 0x1000, none⟩) = true ∧
    reaches (launch 0x1000 [0xB9, 0xC8] [] [] 2) [] [] 2 0x1000 (faultAt .addressing 0x1000 4) = true := by
  refine ⟨?_, ?_, ?_⟩ <;> decide +kernel

/-- X8: STOC with a true condition and an absent operand. -/
theorem test_X8_stoc_absent :
    reaches (endingAt (launch 0x1000 [0xEB, 0x18, 0x20, 0x00, 0x00, 0xF3] [(2, 0x9000)] [] 0) 0x3000)
      [] [] 0 0x1000 (faultAt .addressing 0x1000 6) = true := by decide +kernel

/-- X10, X11: with facility bit 45 zero AHHHR is an operation exception and BCR 14,0 only advances pc. -/
theorem test_X10_X11_facility :
    reaches { launch 0x1000 [0xB9, 0xC8, 0x30, 0x12] [] [] 1 with facilities := [] }
      [] [] 1 0x1000 (faultAt .operation 0x1000 4) = true ∧
    reaches { launch 0x1000 [0x07, 0xE0] [] [] 1 with facilities := [] } [] [] 1 0x1002 .operating = true := by
  constructor <;> decide +kernel

/-- X12, X13, X14, X20: what is refused, each by its name. -/
theorem test_X12_X13_X14_X20_refused :
    refuses (launch 0x1000 [0x1A, 0x12] [] [] 0) .unknownOperationCode = true ∧
    refuses (launch 0x1000 [0xB3, 0x94, 0x00, 0x12] [] [] 0) (.floatingPointUndefined "CEFBRA") = true ∧
    refuses (launch 0x1000 [0xB9, 0x2A, 0x00, 0x24] [] [] 0) (.cryptographicUndefined "KMF") = true ∧
    refuses (launch 0x1000 [0xE3, 0x10, 0x20, 0x00, 0x00, 0xCB] [(2, 0x1002)] [] 0) .storeIntoProgramText = true := by
  refine ⟨?_, ?_, ?_, ?_⟩ <;> decide +kernel

/-- An end address finishes the CPU (70_reset_and_hazards R383); a BCR with R2 = 0 and a mask of 13 does nothing
(R332). -/
theorem test_end_and_no_operation :
    reaches { launch 0x1000 [0xB9, 0xC8, 0x30, 0x12] [] [] 1 with
      cpu := { (launch 0x1000 [0xB9, 0xC8, 0x30, 0x12] [] [] 1).cpu with endAddresses := [0x1000] } }
      [] [] 1 0x1000 .finished = true ∧
    reaches (launch 0x1000 [0x07, 0xD0] [] [] 1) [] [] 1 0x1002 .operating = true := by
  constructor <;> decide +kernel

/-- The instruction address wraps in the 24-bit mode (30_encoding R108). -/
theorem test_pc_wraps :
    reaches (withPsw (launch 0xFFFFFE [0x07, 0xF0] [] [] 0) fun p => { p with amode := .mode24 })
      [] [] 0 0 .operating = true := by decide +kernel

/-- M1: as a move of the schedule a store stays in the buffer, unseen by others and seen by its own CPU
(20_memory R73). -/
theorem test_M1_buffered_store :
    (match step { launch 0x1000 [0xE3, 0x10, 0x20, 0x00, 0x00, 0xCB] [(1, 0x0000000100000000), (2, 0x2000)] [] 0 with
        schedule := [.execute] } with
      | .next t => Memory.read t.storage 0x2003 == 0 && t.view 0x2003 == 1 && t.cpu.buffer.length == 1
      | _ => false) = true := by decide +kernel

/-- M2: a fence makes the buffered store visible (20_memory R74). -/
theorem test_M2_fence :
    (match exec .bcr_14_0 { State.reset with cpu := { Cpu.reset with buffer := [⟨[[(0x2003, 1)]]⟩] } } with
      | .next t => Memory.read t.storage 0x2003 == 1 && t.cpu.buffer.length == 0
      | _ => false) = true := by decide +kernel

/-- The instruction that the host places runs as the next step (log 7). -/
theorem test_withFetchWord :
    (match step (State.reset.withFetchWord 48 0xCC5800000001) with
      | .next t => t.gr 5 == 0x0000000100000000 && t.cpu.psw.pc == 6 && t.cpu.psw.cc == 2
      | _ => false) = true := by decide +kernel

/-! ## Witnesses: states and operands that meet the hypotheses of the statements -/

/-- A launch with a few registers; facility bit 45 is one. -/
def here : State := launch 0x1000 [0xB9, 0xC8, 0x30, 0x12] [(2, 0x2000), (3, 0x2FFE), (4, 0x2002)] [(0x2000, 1)] 2

/-- The same without facility bit 45. -/
def bare : State := { here with facilities := [] }

/-- The same with STORAGE up to address 0x2FFF. -/
def short : State := endingAt here 0x3000

/-- The same with stores in the buffer, one of them in pieces, a faulted second CPU with program text of its own, and a
channel subsystem. -/
def busy : State :=
  { here with
    cpu := { here.cpu with buffer := [⟨[[(0x2001, 1)], [(0x2002, 2)]]⟩, ⟨[[(0x2004, 3), (0x2005, 4)]]⟩] }
    others := [{ Cpu.reset with
      status := faultAt .operation 0x2800 4, psw := { Psw.reset with pc := 0x2800 }, text := [⟨0x2800, 4⟩] }]
    channel := some [⟨0x2100, 4⟩] }

theorem busy_sound : busy.Sound where
  canonical := by decide +kernel
  buffers := by unfold State.buffersSound; decide +kernel
  distinct := by unfold State.buffersDistinct; decide +kernel
  pcs := by unfold Cpu.pcSound; decide +kernel
  records := by
    intro c hc r hr
    rcases List.mem_cons.mp hc with rfl | hc
    · cases hr
    · rcases List.mem_singleton.mp hc with rfl
      cases hr
      rfl
  facilities := by unfold State.facilitiesSound; decide +kernel

/-- Whether a step answers a next state. -/
def advances (s : State) : Bool :=
  match step s with
  | .next _ => true
  | _ => false

theorem next_of_advances {s : State} (h : advances s = true) : ∃ t, step s = .next t := by
  unfold advances at h
  split at h
  · exact ⟨_, ‹_›⟩
  · cases h

theorem witness_UnusedFieldsIgnored :
    0xE1#8 ∈ [0xCD#8, 0xE1#8] ∧ 0xF2#8 ∈ [0xC8#8, 0xF2#8] ∧ 0xDB#8 ∈ [0xD8#8, 0xDB#8] := by decide

theorem witness_StepRunsDecoded :
    here.cpu.status = .operating ∧ here.cpu.psw.pc ∉ here.cpu.endAddresses ∧
    here.fetchInstruction = .ok [0xB9, 0xC8, 0x30, 0x12] ∧ decode [0xB9, 0xC8, 0x30, 0x12] = .ok (.ahhhr 1 2 3) ∧
    here.schedule = [] ∧ ({ here with schedule := [.execute, .drain 0] } : State).schedule = [.execute, .drain 0] := by
  decide +kernel

theorem witness_ProgramTextRuns :
    here.cpu.status = .operating ∧ here.cpu.psw.pc ∉ here.cpu.endAddresses ∧ here.schedule = [] ∧
    here.cpu.psw.pc.toNat % 2 = 0 ∧
    (∀ a ∈ here.operand here.cpu.psw.pc (encode (.ahhhr 1 2 3)).length,
      here.present [a] = true ∧ here.cpu.hasText a = true) ∧
    (here.operand here.cpu.psw.pc (encode (.ahhhr 1 2 3)).length).map (Memory.read here.storage) =
      encode (.ahhhr 1 2 3) := by decide +kernel

/-- An odd pc; a first byte just outside STORAGE, and one just outside the program text; a last byte just outside the
program text, all others in it. -/
theorem witness_FetchExceptions :
    let scheduled (s : State) (pc : Dword) : State := withPsw { s with schedule := [.execute]
        } fun p => { p with pc := pc }
    let first (s : State) : Nat := (s.cpu.psw.amode.wrap s.cpu.psw.pc).toNat
    let whole (s : State) : List Nat := s.operand s.cpu.psw.pc (instructionLength (Memory.read s.storage (first s)))
    let odd := scheduled here 0x1001
    let absent := scheduled short 0x3000
    let after := scheduled here 0x1004
    let cut := scheduled (launch 0x1000 [0xB9, 0xC8, 0x30] [] [] 0) 0x1000
    odd.schedule = [.execute] ∧ odd.cpu.status = .operating ∧ odd.cpu.psw.pc ∉ odd.cpu.endAddresses ∧
    odd.cpu.psw.pc.toNat % 2 = 1 ∧
    absent.cpu.psw.pc.toNat % 2 = 0 ∧ absent.present [first absent] = false ∧
    after.cpu.psw.pc.toNat % 2 = 0 ∧ after.present [first after] = true ∧ after.cpu.hasText (first after) = false ∧
    cut.cpu.psw.pc.toNat % 2 = 0 ∧ cut.present [first cut] = true ∧ cut.cpu.hasText (first cut) = true ∧
    0x1003 ∈ whole cut ∧ cut.cpu.hasText 0x1003 = false := by decide +kernel

theorem witness_EndAddressFinishes :
    let s : State := { here with schedule := [.execute], cpu := { here.cpu with endAddresses := [0x1000] } }
    s.schedule = [.execute] ∧ s.cpu.status = .operating ∧ s.cpu.psw.pc ∈ s.cpu.endAddresses := by decide +kernel

/-- Both answers: all CPUs stopped, and one of two operating. -/
theorem witness_RunOver :
    here.finish.schedule = [] ∧ (∀ c ∈ here.finish.cpus, c.status ≠ .operating) ∧
    busy.schedule = [] ∧ ¬ ∀ c ∈ busy.cpus, c.status ≠ .operating := by decide +kernel

/-- The masks 0 and 13 with a zero R2, and the nearest codes that are refused: a mask of 13 with R2 = 1. -/
theorem witness_UnknownCodes :
    let at_ (bs : List Byte) : State := { launch 0x1000 bs [] [] 0 with schedule := [.execute] }
    (at_ [0x07, 0x00]).schedule = [.execute] ∧ (at_ [0x07, 0x00]).cpu.status = .operating ∧
    (at_ [0x07, 0x00]).cpu.psw.pc ∉ (at_ [0x07, 0x00]).cpu.endAddresses ∧
    (at_ [0x07, 0x00]).fetchInstruction = .ok [0x07, 0#4 ++ 0#4] ∧
    decode [0x07, 0x00] = .error .unknownOperationCode ∧
    (at_ [0x07, 0xD0]).fetchInstruction = .ok [0x07, 13#4 ++ 0#4] ∧
    decode [0x07, 0xD0] = .error .unknownOperationCode ∧
    (at_ [0x07, 0xD1]).fetchInstruction = .ok [0x07, 0xD1] ∧ decode [0x07, 0xD1] = .error .unknownOperationCode ∧
    ∀ m : BitVec 4, m.toNat ≤ 13 → ([0x07, 0xD1] : List Byte) ≠ [0x07, m ++ 0#4] := by decide +kernel

theorem witness_StepKeepsSound : busy.Sound ∧ ∃ t, step busy = .next t :=
  ⟨busy_sound, next_of_advances (by decide +kernel)⟩

theorem witness_ProgramTextImmutable :
    busy.Sound ∧ (∃ t, step busy = .next t) ∧ busy.hasText 0x1000 = true ∧ busy.hasText 0x1003 = true ∧
    busy.hasText 0x2803 = true :=
  ⟨busy_sound, next_of_advances (by decide +kernel), by decide +kernel, by decide +kernel, by decide +kernel⟩

theorem witness_InstructionFrame : ∃ t, exec .bcr_15_0 busy = .next t := ⟨_, rfl⟩

theorem witness_ConfigurationKept : ∃ t, step busy = .next t := next_of_advances (by decide +kernel)

theorem witness_StoppedIsTerminal :
    (∃ t, step busy = .next t) ∧ ∃ c ∈ busy.cpus, c.status ≠ .operating :=
  ⟨next_of_advances (by decide +kernel), by decide +kernel⟩

theorem witness_BigEndian : 32 = 8 * 4 ∧ 3 < (bytesOf 4 0x01020304#32).length := by decide

theorem witness_HighWordsOutsideAddresses :
    State.reset.cpu.psw.amode ≠ .mode64 ∧
    (withPsw State.reset fun p => { p with amode := .mode31 }).cpu.psw.amode ≠ .mode64 := by decide

theorem witness_OperandFetch :
    aligned 0x2000#64 4 = true ∧ aligned 0x2002#64 4 = false ∧ here.cpu.early = [] ∧
    3 < (here.fetchOperand 0x2002 4).length := by decide +kernel

theorem witness_LoadSeesStore :
    45 ∈ here.facilities ∧ here.present (here.operand (here.addressRxy 0 0 2) 4) = true ∧
    ∀ a ∈ here.operand (here.addressRxy 0 0 2) 4, here.hasText a = false := by decide +kernel

/-- Each of the two pieces of the oldest store. -/
theorem witness_DrainOnePiece :
    let s (p : Nat) : State := { busy with schedule := [.drain p] }
    (s 0).Sound ∧ (s 0).schedule = [.drain 0] ∧
    (s 0).cpu.buffer = [⟨[[(0x2001, 1)], [(0x2002, 2)]]⟩, ⟨[[(0x2004, 3), (0x2005, 4)]]⟩] ∧
    ([[(0x2001, 1)], [(0x2002, 2)]] : List (List Host.Cell))[0]? = some [(0x2001, 1)] ∧
    ([[(0x2001, 1)], [(0x2002, 2)]] : List (List Host.Cell))[1]? = some [(0x2002, 2)] :=
  ⟨⟨busy_sound.1, busy_sound.2, busy_sound.3, busy_sound.4, busy_sound.5, busy_sound.6⟩, rfl, rfl, rfl, rfl⟩

theorem witness_BcrSerializes : busy.Sound ∧ 45 ∈ busy.facilities ∧ 45 ∉ bare.facilities :=
  ⟨busy_sound, by decide, by decide⟩

/-- No channel subsystem; bytes that begin or end just outside the buffer region; bytes that fill it. -/
theorem witness_ChannelStores :
    let s (a : Nat) (bs : List Byte) : State := { busy with schedule := [.channelStore a bs] }
    (s 0x2100 [1, 2, 3, 4]).Sound ∧ here.channel = none ∧ busy.channel = some [⟨0x2100, 4⟩] ∧
    (∃ i < [1, 2].length, ([⟨0x2100, 4⟩] : List Region).any (·.has (0x20FF + i)) = false) ∧
    (∃ i < [1, 2].length, ([⟨0x2100, 4⟩] : List Region).any (·.has (0x2103 + i)) = false) ∧
    ∀ i < [1, 2, 3, 4].length, ([⟨0x2100, 4⟩] : List Region).any (·.has (0x2100 + i)) = true ∧
      busy.present [0x2100 + i] = true ∧ busy.hasText (0x2100 + i) = false :=
  ⟨⟨busy_sound.1, busy_sound.2, busy_sound.3, busy_sound.4, busy_sound.5, busy_sound.6⟩, rfl, rfl, by decide, by decide,
    by decide +kernel⟩

theorem witness_OperationException :
    instrGroup (.ahhhr 1 2 3) = .facility45 4 ∧ instrGroup (.lpd 8 0 6 0 7) = .facility45 6 ∧
    45 ∉ bare.facilities := by decide

/-- An address just off its boundary, an odd R3, and each of the two operands off its boundary. -/
theorem witness_SpecificationException :
    45 ∈ here.facilities ∧ (here.addressRsy 3 2).toNat % 4 ≠ 0 ∧ (here.addressRsy 7 2).toNat % 8 ≠ 0 ∧
    (9 : Reg).val % 2 = 1 ∧ (here.addressSsf 1 2).toNat % 4 ≠ 0 ∧ (here.addressSsf 4 2).toNat % 8 ≠ 0 := by
  decide +kernel

/-- Operands whose last byte, and one whose first byte, lies just past STORAGE; with and without a true condition. -/
theorem witness_AddressingException :
    45 ∈ short.facilities ∧ short.present (short.operand (short.addressRxy 2 0 3) 1) = false ∧
    short.present (short.operand (short.addressRxy 1 0 3) 2) = false ∧
    short.present (short.operand (short.addressRxy 0 0 3) 4) = false ∧
    short.present (short.operand (short.addressRsy 2 3) 4) = false ∧ (short.addressRsy 2 3).toNat % 4 = 0 ∧
    short.present (short.operand (short.addressRsy 2 3) 8) = false ∧ (short.addressRsy 2 3).toNat % 8 = 0 ∧
    maskSelects 2#4 short.cpu.psw.cc := by unfold maskSelects; decide +kernel

/-- Each operand absent, the other present. -/
theorem witness_PairAddressingException :
    45 ∈ short.facilities ∧ (8 : Reg).val % 2 = 0 ∧ (short.addressSsf 0 2).toNat % 8 = 0 ∧
    (short.addressSsf 2 3).toNat % 8 = 0 ∧ short.present (short.operand (short.addressSsf 0 2) 8) = true ∧
    short.present (short.operand (short.addressSsf 2 3) 4) = false ∧
    short.present (short.operand (short.addressSsf 2 3) 8) = false := by decide +kernel

/-- Operands that touch the first or the last byte of program text at 0x1000. -/
theorem witness_StoreIntoTextRefused :
    let s := launch 0x1000 [0xB9, 0xC8, 0x30, 0x12] [(2, 0x0FFE), (3, 0x1003), (4, 0x1000), (5, 0x0FFC)] [] 0
    45 ∈ s.facilities ∧ s.present (s.operand (s.addressRxy 0 0 3) 1) = true ∧
    (∃ x ∈ s.operand (s.addressRxy 0 0 3) 1, s.hasText x = true) ∧
    (∃ x ∈ s.operand (s.addressRxy 0 0 3) 2, s.hasText x = true) ∧
    s.present (s.operand (s.addressRxy 0 0 2) 4) = true ∧
    (∃ x ∈ s.operand (s.addressRxy 0 0 2) 4, s.hasText x = true) ∧
    s.present (s.operand (s.addressRsy 0 4) 4) = true ∧ (s.addressRsy 0 4).toNat % 4 = 0 ∧
    (∃ x ∈ s.operand (s.addressRsy 0 4) 4, s.hasText x = true) ∧
    s.present (s.operand (s.addressRsy (-4) 5) 8) = true ∧
    (∃ x ∈ s.operand (s.addressRsy 0 5) 8, s.hasText x = true) ∧ (s.addressRsy 0 4).toNat % 8 = 0 ∧
    maskSelects 8#4 s.cpu.psw.cc := by unfold maskSelects; decide +kernel

theorem witness_UndefinedRefused :
    instrGroup (.srnmb 7 0) = .floatingPoint ∧ instrGroup (.pcc 2 4) = .cryptographic := by decide

theorem refused_after_next {s : State} {r : Refusal}
    (h : (match step s with
      | .next t => refuses t r
      | _ => false) = true) : ∃ t, Reaches s t ∧ refuses t r = true := by
  split at h
  · exact ⟨_, .next .start ‹_›, h⟩
  · cases h

/-- A well-formed instruction at pc; and two runs that end in a refusal of their text, at the first step and after a
well-formed instruction. -/
theorem witness_WellFormedProgramText :
    (here.schedule = [] ∧ here.executes ∧ here.wellFormedHere) ∧
    refuses { launch 0x1000 [0xB2, 0xB8, 0x00, 0x07] [] [] 0 with schedule := [] } (.floatingPointUndefined "SRNMB") =
      true ∧
    ∃ t, Reaches { launch 0x1000 [0xB9, 0xC8, 0x30, 0x12, 0x07, 0xD1] [] [] 0 with schedule := [] } t ∧
      refuses t .unknownOperationCode = true :=
  ⟨⟨rfl, ⟨by decide +kernel, by decide +kernel⟩, [0xB9, 0xC8, 0x30, 0x12], by decide +kernel, by decide +kernel⟩,
    by decide +kernel, refused_after_next (by decide +kernel)⟩

/-- The hypothesis of SignedHigh, LogicalHigh, AlsihnKeepsCode, CompareHigh, RotateThenInsert, ExtendedMnemonics,
LoadRegisterOnCondition, SignedDistinct, LogicalDistinct, BitwiseDistinct, ShiftLeftSingle, ShiftRightSingle,
ShiftLogical and PopulationCount. -/
theorem witness_facility : 45 ∈ State.reset.facilities := by decide

/-- LOCR and LOCGR with a true and with a false condition. -/
theorem witness_LoadRegisterOnCondition :
    45 ∈ here.facilities ∧ maskSelects 2#4 here.cpu.psw.cc ∧ ¬ maskSelects 13#4 here.cpu.psw.cc := by
  unfold maskSelects; decide

/-- A count of one, which falls through, and the counts of zero and two, which branch. -/
theorem witness_BranchOnCountHigh :
    45 ∈ here.facilities ∧ (here.setGrh 5 1#32).grh 5 = 1#32 ∧ (here.setGrh 5 0#32).grh 5 ≠ 1#32 ∧
    (here.setGrh 5 2#32).grh 5 ≠ 1#32 := by decide +kernel

/-- The last word of STORAGE. -/
theorem witness_CompareHighStorage :
    45 ∈ short.facilities ∧ short.present (short.operand (short.addressRxy (-2) 0 3) 4) = true := by decide +kernel

/-- The last byte, halfword and word of STORAGE. -/
theorem witness_LoadHigh :
    45 ∈ short.facilities ∧ short.present (short.operand (short.addressRxy 1 0 3) 1) = true ∧
    short.present (short.operand (short.addressRxy 0 0 3) 2) = true ∧
    short.present (short.operand (short.addressRxy (-2) 0 3) 4) = true := by decide +kernel

/-- The byte, halfword and word just past program text. -/
theorem witness_StoreHigh :
    let s := launch 0x1000 [0xB9, 0xC8, 0x30, 0x12] [(2, 0x1004)] [] 0
    45 ∈ s.facilities ∧ s.present (s.operand (s.addressRxy 0 0 2) 4) = true ∧
    ∀ x ∈ s.operand (s.addressRxy 0 0 2) 4, s.hasText x = false := by decide +kernel

/-- A sound state with stores in the buffer and an aligned word. -/
theorem witness_LoadAndUpdateWord :
    busy.Sound ∧ 45 ∈ busy.facilities ∧ (busy.addressRsy 4 2).toNat % 4 = 0 ∧
    busy.present (busy.operand (busy.addressRsy 4 2) 4) = true ∧
    ∀ x ∈ busy.operand (busy.addressRsy 4 2) 4, busy.hasText x = false :=
  ⟨busy_sound, by decide +kernel⟩

theorem witness_LoadAndUpdateDoubleword :
    busy.Sound ∧ 45 ∈ busy.facilities ∧ (busy.addressRsy 0 2).toNat % 8 = 0 ∧
    busy.present (busy.operand (busy.addressRsy 0 2) 8) = true ∧
    ∀ x ∈ busy.operand (busy.addressRsy 0 2) 8, busy.hasText x = false :=
  ⟨busy_sound, by decide +kernel⟩

theorem witness_LoadPairDisjoint :
    45 ∈ here.facilities ∧ (14 : Reg).val % 2 = 0 ∧ (here.addressSsf 4 2).toNat % 4 = 0 ∧
    here.present (here.operand (here.addressSsf 4 2) 4) = true ∧ (here.addressSsf 8 2).toNat % 8 = 0 ∧
    here.present (here.operand (here.addressSsf 8 2) 8) = true := by decide +kernel

/-- An aligned operand, interlocked with facility bit 45 one and not with it zero, and one off its boundary. -/
theorem witness_AddToStorage :
    busy.Sound ∧ busy.present (busy.operand (busy.addressRsy 0 2) 8) = true ∧
    (∀ x ∈ busy.operand (busy.addressRsy 0 2) 8, busy.hasText x = false) ∧
    ((busy.addressRsy 0 2).toNat % 8 = 0 ∧ 45 ∈ busy.facilities) ∧
    ¬ ((bare.addressRsy 0 2).toNat % 4 = 0 ∧ 45 ∈ bare.facilities) ∧
    ¬ ((busy.addressRsy 0 4).toNat % 4 = 0 ∧ 45 ∈ busy.facilities) ∧
    busy.present (busy.operand (busy.addressRsy 0 4) 4) = true ∧
    (∀ x ∈ busy.operand (busy.addressRsy 0 4) 4, busy.hasText x = false) ∧
    (busy.fetchNow (busy.operand (busy.addressRsy 0 2) 4)).length = 4 ∧
    (busy.fetchForUpdate (busy.addressRsy 0 2) 8).length = 8 :=
  ⟨busy_sound, by decide +kernel⟩

theorem witness_LoadOnCondition :
    45 ∈ here.facilities ∧ maskSelects 2#4 here.cpu.psw.cc ∧
    here.present (here.operand (here.addressRsy 1 2) 4) = true ∧
    here.present (here.operand (here.addressRsy 1 2) 8) = true := by unfold maskSelects; decide +kernel

theorem witness_StoreOnCondition :
    45 ∈ here.facilities ∧ maskSelects 2#4 here.cpu.psw.cc ∧
    here.present (here.operand (here.addressRsy 1 2) 8) = true ∧
    ∀ x ∈ here.operand (here.addressRsy 1 2) 8, here.hasText x = false := by unfold maskSelects; decide +kernel

/-- A false condition with an operand in STORAGE and with one whose last bytes are not. -/
theorem witness_FalseCondition :
    45 ∈ short.facilities ∧ ¬ maskSelects 13#4 short.cpu.psw.cc ∧ ¬ maskSelects 0#4 short.cpu.psw.cc ∧
    short.present (short.operand (short.addressRsy (-6) 3) 8) = true ∧
    short.present (short.operand (short.addressRsy 0 3) 4) = false ∧
    short.present (short.operand (short.addressRsy 0 3) 8) = false := by unfold maskSelects; decide +kernel

/-- The shift amounts 0, 31, 32 and 63. -/
theorem witness_ShiftLeftSingle :
    45 ∈ here.facilities ∧ here.shiftAmount 0 0 = 0 ∧ here.shiftAmount 31 0 = 31 ∧ here.shiftAmount 32 0 = 32 ∧
    here.shiftAmount (-1) 0 = 63 := by decide +kernel

end Sys2Proof.Tests
end

section
/-! PROOFS. The scope of the model (00_scope): what every instruction leaves as it was, which instruction a step runs,
and the state a run begins in. -/

namespace Sys2Proof.Machine

/-! ## The frame of an update -/

/-- What a run never changes of a CPU is transitive. -/
theorem Cpu.SameFixed.trans {c d e : Cpu} (hcd : c.SameFixed d) (hde : d.SameFixed e) : c.SameFixed e where
  psw := by rw [← hde.psw, ← hcd.psw]
  cr := hcd.cr.trans hde.cr
  fpcr := hcd.fpcr.trans hde.fpcr
  fpr := hcd.fpr.trans hde.fpr
  ar := hcd.ar.trans hde.ar
  prefixReg := hcd.prefixReg.trans hde.prefixReg
  tlb := hcd.tlb.trans hde.tlb
  text := hcd.text.trans hde.text
  endAddresses := hcd.endAddresses.trans hde.endAddresses

/-- What a run never changes of the configuration is transitive. -/
theorem State.SameFixed.trans {s t u : State} (hst : s.SameFixed t) (htu : t.SameFixed u) : s.SameFixed u where
  regions := hst.regions.trans htu.regions
  storageKeys := hst.storageKeys.trans htu.storageKeys
  referenceBits := hst.referenceBits.trans htu.referenceBits
  facilities := hst.facilities.trans htu.facilities
  wrappingKeys := hst.wrappingKeys.trans htu.wrappingKeys
  channel := hst.channel.trans htu.channel

/-- The frame of two operations, one after the other. -/
theorem State.Keeps.trans {s t u : State} {written : List Reg} (hst : s.Keeps t written) (htu : t.Keeps u written) :
    s.Keeps u written where
  others := htu.others.trans hst.others
  schedule := htu.schedule.trans hst.schedule
  configuration := hst.configuration.trans htu.configuration
  cpu := hst.cpu.trans htu.cpu
  registers r hr := (htu.registers r hr).trans (hst.registers r hr)

/-- The fields a frame leaves free may hold anything, the general registers where they may be written. Every shared
operation of the model is such an update. -/
theorem State.keeps_update (s : State) {written : List Reg} {gr : Vector Dword 16}
    (hgr : ∀ r : Reg, r ∉ written → gr[r.val] = s.gr r) (cc : CondCode) (pc : Dword) (status : CpuStatus)
    (buffer : List BufferedStore) (early : List EarlyFetch) (storage : List Host.Cell) (draws : Nat) :
    s.Keeps
      { s with
        cpu := { s.cpu with
          gr := gr, psw := { s.cpu.psw with cc := cc, pc := pc }, status := status, buffer := buffer, early := early }
        storage := storage
        draws := draws }
      written where
  others := rfl
  schedule := rfl
  configuration := ⟨rfl, rfl, rfl, rfl, rfl, rfl⟩
  cpu := ⟨rfl, rfl, rfl, rfl, rfl, rfl, rfl, rfl, rfl⟩
  registers := hgr

/-- An update that leaves the general registers keeps them all. -/
theorem State.keeps_update_of_gr (s : State) (written : List Reg) (cc : CondCode) (pc : Dword) (status : CpuStatus)
    (buffer : List BufferedStore) (early : List EarlyFetch) (storage : List Host.Cell) (draws : Nat) :
    s.Keeps
      { s with
        cpu := { s.cpu with
          psw := { s.cpu.psw with cc := cc, pc := pc }, status := status, buffer := buffer, early := early }
        storage := storage
        draws := draws }
      written :=
  s.keeps_update (fun _ _ => rfl) ..

/-- Whatever the shared operations do, they write nothing but general registers and what every frame leaves free. -/
theorem Effect.keeps {s t : State} (h : Effect s t) : s.Keeps t (List.finRange 16) := by
  induction h with
  | refl => exact s.keeps_update_of_gr ..
  | setGr r v _ ih => exact ih.trans (State.keeps_update _ (fun q hq => absurd (List.mem_finRange q) hq) ..)
  | setCc c _ ih => exact ih.trans (State.keeps_update_of_gr ..)
  | jump a _ _ _ ih => exact ih.trans (State.keeps_update_of_gr ..)
  | drainAll _ ih => exact ih.trans (State.keeps_update_of_gr ..)
  | bufferStore a bs _ _ _ _ ih => exact ih.trans (State.keeps_update_of_gr ..)
  | writeStorage a bs _ _ _ ih => exact ih.trans (State.keeps_update_of_gr ..)
  | draw _ ih => exact ih.trans (State.keeps_update_of_gr ..)
  | takeException e ia n _ ih => exact ih.trans (State.keeps_update_of_gr ..)

/-- Settles O14: everything an instruction does is done by the shared operations, and each of them keeps the frame. -/
theorem instructionFrame : Obligations.InstructionFrame := by
  intro i s t h
  have hkeeps : s.Keeps t (List.finRange 16) := (exec_effect i h).keeps
  exact ⟨hkeeps.cpu, hkeeps.configuration, hkeeps.others, hkeeps.schedule⟩

/-! ## What a step runs -/

/-- An operating CPU's step is what the active CPU runs, whatever moves are still to come. -/
theorem State.stepIs_of_runActive {s : State} {run : State → Result} (hop : s.cpu.status = .operating)
    (hrun : ∀ moves, runActive { s with schedule := moves } = run { s with schedule := moves }) : s.StepIs run := by
  have hactive : s.cpu.isOperating = true := by simp [Cpu.isOperating, hop]
  constructor
  · intro hempty
    calc step s = runUnscheduled s := by simp only [step, hempty]
      _ = Result.drained (runActive s) := by simp only [runUnscheduled, hactive, if_true]
      _ = Result.drained (run s) := congrArg Result.drained (hrun s.schedule)
  · intro rest hmoves
    calc step s = perform .execute { s with schedule := rest } := by simp only [step, hmoves]
      _ = runActive { s with schedule := rest } := by simp only [perform, hactive, if_true]
      _ = run { s with schedule := rest } := hrun rest

/-- Away from its end addresses the active CPU executes the instruction that stands at pc. -/
theorem runActive_of_decode {s : State} {bs : List Byte} {i : Instr} (hend : s.cpu.psw.pc ∉ s.cpu.endAddresses)
    (hfetch : s.fetchInstruction = .ok bs) (hdecode : decode bs = .ok i) : runActive s = exec i s := by
  simp only [runActive, List.contains_iff_mem, if_neg hend, hfetch, hdecode]

/-- Settles O5: neither the fetch nor the end addresses depend on the schedule. -/
theorem stepRunsDecoded : Obligations.StepRunsDecoded := by
  intro s bs i hop hend hfetch hdecode
  exact State.stepIs_of_runActive hop fun moves =>
    runActive_of_decode (s := { s with schedule := moves }) hend hfetch hdecode

/-! ## Reset -/

/-- Every general register is zero after reset (log 1). -/
theorem State.gr_reset (r : Reg) : State.reset.gr r = 0#64 := Vector.getElem_replicate r.isLt

/-- Every byte reads as zero after reset: nothing is stored and nothing is buffered (log 4). -/
theorem State.view_reset (a : Nat) : State.reset.view a = 0#8 := rfl

/-- STORAGE after reset is the one region of all 64-bit addresses (log 5). -/
theorem State.present_reset (a : Nat) : State.reset.present [a] = decide (a < 2 ^ 64) := by
  simp [State.present, State.reset, Region.has]

/-- No CPU has program text after reset (log 7). -/
theorem State.hasText_reset (a : Nat) : State.reset.hasText a = false := rfl

/-- Settles O59: the fields stand in the definition, and the reads are the lemmas above. -/
theorem resetState : Obligations.ResetState :=
  ⟨rfl, rfl, rfl, rfl, rfl, rfl, State.gr_reset, State.view_reset, State.present_reset, State.hasText_reset⟩

end Sys2Proof.Machine
end

section
/-! PROOFS. The encoding (30_encoding): the encoder writes the text that the decoder reads. -/

namespace Sys2Proof

/-! ## The decoder on the encoder's bytes -/

/-- Some bytes are the whole text of an instruction: their first gives their number, and the decoder's rows give the
instruction. -/
structure IsTextOf (bs : List Byte) (i : Instr) : Prop where
  length : ∃ b rest, bs = b :: rest ∧ bs.length = instructionLength b
  whole : decodeWhole bs = some i

/-- The decoder reads the text of an instruction. -/
theorem IsTextOf.decode {bs : List Byte} {i : Instr} (h : IsTextOf bs i) : decode bs = .ok i := by
  obtain ⟨b, rest, rfl, hlength⟩ := h.length
  simp only [Sys2Proof.decode, ← hlength, Nat.lt_irrefl, if_false, List.take_length, h.whole]

/-- Four bytes of a row that bits 0-15 select (30_encoding R112). -/
theorem isTextOf_32 {w : BitVec 32} {op : BitVec 16} {build : BitVec 32 → Instr} {i : Instr}
    (hfirst : w.extractLsb' 24 8 = op.extractLsb' 8 8) (hcode : field w 0 16 = op) (hbuild : build w = i)
    (hlength : instructionLength (op.extractLsb' 8 8) = 4) (hrow : lookup op.toNat rows32 = some build) :
    IsTextOf (bytesOf 4 w) i where
  length := ⟨_, _, rfl, Laws.length_of_first 4 w _ _ hfirst hlength⟩
  whole := by rw [decodeWhole_bytesOf32, decode32, hcode, hrow, ← hbuild]; rfl

/-- Six bytes of a row that bits 0-7 and 12-15 select (30_encoding R112). -/
theorem isTextOf_48_of_rows12 {w : BitVec 48} {op : BitVec 8} {op' : BitVec 4} {build : BitVec 48 → Instr} {i : Instr}
    (hfirst : w.extractLsb' 40 8 = op.extractLsb' 0 8) (hcode : (field w 0 8 ++ field w 12 4 : BitVec 12) = op ++ op')
    (hbuild : build w = i) (hlength : instructionLength (op.extractLsb' 0 8) = 6)
    (hrow : lookup (op ++ op').toNat rows12 = some build) : IsTextOf (bytesOf 6 w) i where
  length := ⟨_, _, rfl, Laws.length_of_first 6 w _ _ hfirst hlength⟩
  whole := by rw [decodeWhole_bytesOf48, decode48, hcode, hrow, ← hbuild]

/-- Six bytes of a row that bits 0-7 and 40-47 select, no row of bits 0-7 and 12-15 having this first byte
(30_encoding R112). -/
theorem isTextOf_48_of_rows16 {w : BitVec 48} {op op' : BitVec 8} {build : BitVec 48 → Instr} {i : Instr}
    (hfirst : w.extractLsb' 40 8 = op.extractLsb' 0 8) (hcode : (field w 0 8 ++ field w 40 8 : BitVec 16) = op ++ op')
    (hbuild : build w = i) (hlength : instructionLength (op.extractLsb' 0 8) = 6)
    (hno : ∀ x : BitVec 4, lookup (op ++ x).toNat rows12 = none)
    (hrow : lookup (op ++ op').toNat rows16 = some build) : IsTextOf (bytesOf 6 w) i where
  length := ⟨_, _, rfl, Laws.length_of_first 6 w _ _ hfirst hlength⟩
  whole := by
    have hop : field w 0 8 = op := hfirst.trans (slice_all op)
    rw [decodeWhole_bytesOf48, decode48, hcode, hrow, hop, hno, ← hbuild]
    rfl

/-- The first bytes of RXY, RSY, SIY and RIE begin no row of bits 0-7 and 12-15 (30_encoding R112). -/
theorem lookup_rows12_eq_none {op : BitVec 8} (h : op ∈ [0xE3#8, 0xEB#8, 0xEC#8]) (x : BitVec 4) :
    lookup (op ++ x).toNat rows12 = none := by
  revert op x; decide

/-- The encoder writes the text of the instruction. -/
theorem encode_isTextOf (i : Instr) : IsTextOf (encode i) i := by
  cases i with
  | ahhhr | ahhlr | alhhhr | alhhlr | shhhr | shhlr | slhhhr | slhhlr | ark | agrk | alrk | algrk | nrk | ngrk | xrk
  | xgrk | ork | ogrk | srk | sgrk | slrk | slgrk | kmctr =>
    exact isTextOf_32 (encRrfA_first ..) (encRrfA_code ..) (encRrfA_operands ..) rfl rfl
  | locr | locgr => exact isTextOf_32 (encRrfC_first ..) (encRrfC_code ..) (encRrfC_operands ..) rfl rfl
  | cxlfbr | cdlfbr | celfbr | cxlgbr | cdlgbr | celgbr | clfxbr | clfdbr | clfebr | clgxbr | clgdbr | clgebr
  | cxfbra | cdfbra | cefbra | cxgbra | cdgbra | cegbra | cfxbra | cfdbra | cfebra | cgxbra | cgdbra
  | cgebra | fixbra | fidbra | fiebra | ldxbra | lexbra | ledbra | cxftr | cdftr | cxlftr | cdlftr | cxlgtr
  | cdlgtr | cfxtr | cfdtr | clfxtr | clfdtr | clgxtr | clgdtr | cxgtra | cdgtra | cgxtra | cgdtra =>
    exact isTextOf_32 (encRrfE_first ..) (encRrfE_code ..) (encRrfE_operands ..) rfl rfl
  | axtra | adtra | dxtra | ddtra | mxtra | mdtra | sxtra | sdtra =>
    exact isTextOf_32 (encRrfA4_first ..) (encRrfA4_code ..) (encRrfA4_operands ..) rfl rfl
  | chhr | chlr | clhhr | clhlr | popcnt | pckmo | kmf | kmo | pcc =>
    exact isTextOf_32 (encRre_first ..) (encRre_code ..) (encRre_operands ..) rfl rfl
  | srnmb => exact isTextOf_32 (encSFormat_first ..) (encSFormat_code ..) (encSFormat_operands ..) rfl rfl
  | aih | alsih | alsihn | cih | clih =>
    exact isTextOf_48_of_rows12 (encRilA_first ..) (encRilA_code ..) (encRilA_operands ..) rfl rfl
  | brcth => exact isTextOf_48_of_rows12 (encRilB_first ..) (encRilB_code ..) (encRilB_operands ..) rfl rfl
  | lpd | lpdg => exact isTextOf_48_of_rows12 (encSsf_first ..) (encSsf_code ..) (encSsf_operands ..) rfl rfl
  | chf | clhf | lbh | lhh | lfh | llch | llhh | stch | sthh | stfh =>
    exact isTextOf_48_of_rows16 (encRxy_first ..) (encRxy_code ..) (encRxy_operands ..) rfl
      (lookup_rows12_eq_none (by decide)) rfl
  | laa | laag | laal | laalg | lan | lang | lax | laxg | lao | laog | slak | sllk | srak | srlk =>
    exact isTextOf_48_of_rows16 (encRsyA_first ..) (encRsyA_code ..) (encRsyA_operands ..) rfl
      (lookup_rows12_eq_none (by decide)) rfl
  | loc | locg | stoc | stocg =>
    exact isTextOf_48_of_rows16 (encRsyB_first ..) (encRsyB_code ..) (encRsyB_operands ..) rfl
      (lookup_rows12_eq_none (by decide)) rfl
  | ahik | aghik | alhsik | alghsik =>
    exact isTextOf_48_of_rows16 (encRieD_first ..) (encRieD_code ..) (encRieD_operands ..) rfl
      (lookup_rows12_eq_none (by decide)) rfl
  | risbhg | risblg =>
    exact isTextOf_48_of_rows16 (encRieF_first ..) (encRieF_code ..) (encRieF_operands ..) rfl
      (lookup_rows12_eq_none (by decide)) rfl
  | asi | agsi | alsi | algsi =>
    exact isTextOf_48_of_rows16 (encSiy_first ..) (encSiy_code ..) (encSiy_operands ..) rfl
      (lookup_rows12_eq_none (by decide)) rfl
  | bcr_15_0 => exact ⟨Laws.EncodedLength.bcr_15_0, rfl⟩
  | bcr_14_0 => exact ⟨Laws.EncodedLength.bcr_14_0, rfl⟩

/-- Decoding an encoded instruction gives it back. -/
theorem decode_encode (i : Instr) : decode (encode i) = .ok i := (encode_isTextOf i).decode

/-- The first byte of an encoded instruction gives its length (30_encoding R91). -/
theorem encodedLength (i : Instr) : Laws.EncodedLength.Statement i := (encode_isTextOf i).length

end Sys2Proof
end

section
/-! PROOFS. The state (10_state): what every step keeps, the instruction fetch, and what no instruction reads. -/

namespace Sys2Proof.Machine

/-! ## What a move answers -/

/-- An admissible move answers its state. -/
theorem orInadmissible_next {o : Option State} {t : State} (h : orInadmissible o = .next t) : o = some t := by
  cases o with
  | none => cases h
  | some u => cases h; rfl

/-- A next state after draining is a drained next state. -/
theorem Result.drained_next {r : Result} {t : State} (h : r.drained = .next t) :
    ∃ u, r = .next u ∧ t = u.drainAll := by
  cases r with
  | next u => cases h; exact ⟨u, rfl, rfl⟩
  | fault | refused => cases h

/-- The CPU that becomes active has its number among the others, and the active one takes its place. -/
theorem State.switchTo_some {s t : State} {k : Nat} (h : s.switchTo k = some t) :
    ∃ hk : k < s.others.length, t = { s with cpu := s.others[k], others := s.others.set k s.cpu } := by
  unfold State.switchTo at h
  split at h
  · rename_i hc
    obtain ⟨hk, rfl⟩ := List.getElem?_eq_some_iff.mp hc
    cases h
    exact ⟨hk, rfl⟩
  · cases h

/-- Switching reorders the CPUs. -/
theorem State.switchTo_perm {s t : State} {k : Nat} (h : s.switchTo k = some t) : t.cpus.Perm s.cpus := by
  obtain ⟨hk, rfl⟩ := State.switchTo_some h
  calc s.others[k] :: s.others.set k s.cpu
    _ |>.Perm (s.others[k] :: s.cpu :: s.others.eraseIdx k) := (List.set_perm_cons_eraseIdx hk _).cons _
    _ |>.Perm (s.cpu :: s.others[k] :: s.others.eraseIdx k) := .swap ..
    _ |>.Perm (s.cpu :: s.others) := (List.getElem_cons_eraseIdx_perm hk).cons _

/-- A drained piece is one of the oldest store's, and the store's other pieces stay, if there are any. -/
theorem State.drainPiece_some {s t : State} {p : Nat} (h : s.drainPiece p = some t) :
    ∃ st rest cells, s.cpu.buffer = st :: rest ∧ st.units[p]? = some cells ∧
      t = { s with
        storage := Memory.writeCells s.storage cells
        cpu := { s.cpu with
          buffer := if (st.units.eraseIdx p).isEmpty then rest else ⟨st.units.eraseIdx p⟩ :: rest } } := by
  unfold State.drainPiece at h
  split at h
  · cases h
  · rename_i st rest hbuffer
    split at h
    · cases h
    · rename_i cells hcells
      cases h
      exact ⟨st, rest, cells, hbuffer, hcells, rfl⟩

/-- The channel subsystem writes bytes that are all in STORAGE and none of which is program text. -/
theorem channelStore_next {a : Nat} {bytes : List Byte} {s t : State} (h : channelStore a bytes s = .next t) :
    s.present (channelAddresses a bytes) = true ∧ (∀ x ∈ channelAddresses a bytes, s.hasText x = false) ∧
      t = { s with storage := Memory.writeCells s.storage ((channelAddresses a bytes).zip bytes) } := by
  unfold channelStore at h
  simp only at h
  split at h
  · cases h
  · split at h
    · rename_i hc
      obtain ⟨htext, h⟩ := requireNoText_next h
      cases h
      exact ⟨(Bool.and_eq_true_iff.mp hc).2, htext, rfl⟩
    · cases h

/-! ## Everything a step can do -/

/-- The states that the moves of the agents reach from one: those of an instruction, and what the other moves do. -/
inductive StepEffect (s : State) : State → Prop
  /-- A step takes its move from the schedule. -/
  | reschedule (moves : List Move) : StepEffect s { s with schedule := moves }
  | instruction {t u : State} : StepEffect s t → Effect t u → StepEffect s u
  | finish {t : State} : StepEffect s t → StepEffect s t.finish
  | drainPiece {t u : State} (p : Nat) : StepEffect s t → t.drainPiece p = some u → StepEffect s u
  | fetchEarly {t : State} (a n : Nat) : StepEffect s t → StepEffect s (t.fetchEarly a n)
  | switchTo {t u : State} (k : Nat) : StepEffect s t → t.switchTo k = some u → StepEffect s u
  /-- The channel subsystem writes bytes that are all in STORAGE and none of which is program text. -/
  | channelStore {t : State} (as : List Nat) (bytes : List Byte) : StepEffect s t → t.present as = true →
      (∀ x ∈ as, t.hasText x = false) →
      StepEffect s { t with storage := Memory.writeCells t.storage (as.zip bytes) }

/-- What runs when the active CPU is given its turn: the finish at an end address, a fetch exception, an instruction, or
the no-operation without a row. -/
theorem runActive_effect {s t : State} (h : runActive s = .next t) : t = s.finish ∨ Effect s t := by
  unfold runActive at h
  split at h
  · cases h; exact .inl rfl
  · split at h
    · cases h; exact .inr (Effect.refl.takeException ..)
    · split at h
      · exact .inr (exec_effect _ h)
      · split at h
        · exact .inr (bcrNoOperation_effect h)
        · cases h

theorem StepEffect.runActive {s t u : State} (ht : StepEffect s t) (h : runActive t = .next u) : StepEffect s u := by
  rcases runActive_effect h with rfl | heffect
  · exact ht.finish
  · exact ht.instruction heffect

theorem StepEffect.drainAll {s t : State} (ht : StepEffect s t) : StepEffect s t.drainAll :=
  ht.instruction Effect.refl.drainAll

/-- Everything a move can do. -/
theorem StepEffect.perform {s t u : State} {m : Move} (ht : StepEffect s t) (h : perform m t = .next u) :
    StepEffect s u := by
  cases m with
  | execute =>
    simp only [Machine.perform] at h
    split at h
    · exact ht.runActive h
    · cases h
  | drain p => exact ht.drainPiece p (orInadmissible_next h)
  | fetchEarly a n =>
    simp only [Machine.perform] at h
    split at h
    · cases h; exact ht.fetchEarly a n
    · cases h
  | switchTo k => exact ht.switchTo k (orInadmissible_next h)
  | channelStore a bytes =>
    obtain ⟨hpresent, htext, rfl⟩ := channelStore_next h
    exact ht.channelStore _ bytes hpresent htext

/-- Everything that can happen when the schedule is empty. -/
theorem StepEffect.runUnscheduled {s t u : State} (ht : StepEffect s t) (h : runUnscheduled t = .next u) :
    StepEffect s u := by
  unfold Machine.runUnscheduled at h
  split at h
  · obtain ⟨v, hrun, rfl⟩ := Result.drained_next h
    exact (ht.runActive hrun).drainAll
  · split at h
    · exact ht.drainAll.switchTo _ (orInadmissible_next h)
    · cases h

/-- Everything a step can do. -/
theorem step_effect {s t : State} (h : step s = .next t) : StepEffect s t := by
  unfold step at h
  split at h
  · exact (StepEffect.reschedule s.schedule).runUnscheduled h
  · exact (StepEffect.reschedule _).perform h

/-! ## The configuration -/

/-- The configuration is the same: its fixed fields, the number of its CPUs and the program text of all of them. -/
structure State.SameConfiguration (s t : State) : Prop where
  fixed : s.SameFixed t
  number : t.cpus.length = s.cpus.length
  text : ∀ a, t.hasText a = s.hasText a

theorem State.SameConfiguration.trans {s t u : State} (hst : s.SameConfiguration t) (htu : t.SameConfiguration u) :
    s.SameConfiguration u where
  fixed := hst.fixed.trans htu.fixed
  number := htu.number.trans hst.number
  text a := (htu.text a).trans (hst.text a)

/-- The frame of an instruction holds the configuration. -/
theorem State.Keeps.sameConfiguration {s t : State} {written : List Reg} (h : s.Keeps t written) :
    s.SameConfiguration t where
  fixed := h.configuration
  number := by simp [State.cpus, h.others]
  text a := by simp [State.hasText, Cpu.hasText, h.others, h.cpu.text]

/-- Taking a move from the schedule keeps the configuration. -/
theorem State.sameConfiguration_schedule (s : State) (moves : List Move) :
    s.SameConfiguration { s with schedule := moves } := ⟨⟨rfl, rfl, rfl, rfl, rfl, rfl⟩, rfl, fun _ => rfl⟩

/-- Switching keeps the configuration: the CPUs are reordered. -/
theorem State.sameConfiguration_switchTo {s t : State} {k : Nat} (h : s.switchTo k = some t) :
    s.SameConfiguration t where
  fixed := by obtain ⟨-, rfl⟩ := State.switchTo_some h; exact ⟨rfl, rfl, rfl, rfl, rfl, rfl⟩
  number := (State.switchTo_perm h).length_eq
  text _ := (State.switchTo_perm h).any_eq

/-- Every move keeps the configuration. -/
theorem StepEffect.sameConfiguration {s t : State} (h : StepEffect s t) : s.SameConfiguration t := by
  induction h with
  | reschedule moves => exact s.sameConfiguration_schedule moves
  | instruction _ heffect ih => exact ih.trans heffect.keeps.sameConfiguration
  | finish _ ih => exact ih.trans (State.keeps_update_of_gr _ [] ..).sameConfiguration
  | drainPiece p _ hdrain ih =>
    obtain ⟨_, _, _, -, -, rfl⟩ := State.drainPiece_some hdrain
    exact ih.trans (State.keeps_update_of_gr _ [] ..).sameConfiguration
  | fetchEarly a n _ ih => exact ih.trans (State.keeps_update_of_gr _ [] ..).sameConfiguration
  | switchTo k _ hswitch ih => exact ih.trans (State.sameConfiguration_switchTo hswitch)
  | channelStore as bytes _ _ _ ih => exact ih.trans (State.keeps_update_of_gr _ [] ..).sameConfiguration

/-- Settles O15: every move keeps the configuration, and a step is made of moves. -/
theorem configurationKept : Obligations.ConfigurationKept := by
  intro s t h
  have hsame : s.SameConfiguration t := (step_effect h).sameConfiguration
  exact ⟨hsame.fixed, hsame.number, hsame.text⟩

/-! ## The bytes of an operand -/

/-- Wrapping is reduction modulo the size of the mode's address space (30_encoding R108). -/
theorem AMode.toNat_wrap (m : AMode) (a : Dword) : (m.wrap a).toNat = a.toNat % 2 ^ m.bits := by
  cases m with
  | mode24 => exact (BitVec.toNat_and ..).trans (Nat.and_two_pow_sub_one_eq_mod a.toNat 24)
  | mode31 => exact (BitVec.toNat_and ..).trans (Nat.and_two_pow_sub_one_eq_mod a.toNat 31)
  | mode64 => exact (Nat.mod_eq_of_lt a.isLt).symm

/-- The address of byte `i` of an operand (30_encoding R108). -/
theorem AMode.toNat_wrap_add (m : AMode) (a : Dword) (i : Nat) :
    (m.wrap (a + BitVec.ofNat 64 i)).toNat = (a.toNat + i) % 2 ^ m.bits := by
  have hdvd : 2 ^ m.bits ∣ 2 ^ 64 := by cases m <;> decide
  rw [AMode.toNat_wrap, BitVec.toNat_add, BitVec.toNat_ofNat, Nat.add_mod_mod, Nat.mod_mod_of_dvd _ hdvd]

/-- The bytes of an operand that is no longer than the smallest address space lie at different addresses. -/
theorem operandAddresses_nodup (m : AMode) (a : Dword) {n : Nat} (hn : n ≤ 2 ^ 24) :
    (operandAddresses m a n).Nodup := by
  refine List.Nodup.map_on (fun i hi j hj hij => ?_) List.nodup_range
  rw [List.mem_range] at hi hj
  simp only [AMode.toNat_wrap_add] at hij
  cases m <;> simp only [AMode.bits] at hij <;> omega

/-- The pieces of a store hold its bytes, in order. -/
theorem flatten_pieces (a : Dword) (cells : List Host.Cell) : (pieces a cells).flatten = cells := by
  unfold pieces
  split
  · simp
  · exact List.flatMap_singleton' cells

/-! ## Sound CPUs -/

/-- A buffered store may become visible in a state: its bytes are in STORAGE, none of them is program text, and no two
have one address. -/
structure BufferedStore.SoundIn (st : BufferedStore) (s : State) : Prop where
  safe : ∀ x ∈ st.units.flatten, s.present [x.1] = true ∧ s.hasText x.1 = false
  distinct : (st.units.flatten.map (·.1)).Nodup

/-- What `State.Sound` says of one CPU of a state. -/
structure Cpu.SoundIn (c : Cpu) (s : State) : Prop where
  pc : c.pcSound
  record : c.recordSound
  buffer : ∀ st ∈ c.buffer, st.SoundIn s

/-- A state is sound when its storage, its facility list and each of its CPUs are. -/
theorem State.sound_iff {s : State} :
    s.Sound ↔ Memory.wf s.storage ∧ s.facilitiesSound ∧ ∀ c ∈ s.cpus, c.SoundIn s := by
  constructor
  · intro h
    refine ⟨h.canonical, h.facilities, fun c hc => ⟨h.pcs c hc, h.records c hc, fun st hst => ⟨fun x hx => ?_, ?_⟩⟩⟩
    · obtain ⟨piece, hpiece, hx⟩ := List.mem_flatten.mp hx
      exact h.buffers c hc st hst piece hpiece x hx
    · exact h.distinct c hc st hst
  · intro ⟨hwf, hfacilities, hcpus⟩
    exact {
      canonical := hwf
      buffers := fun c hc st hst piece hpiece x hx =>
        ((hcpus c hc).buffer st hst).safe x (List.mem_flatten.mpr ⟨piece, hpiece, hx⟩)
      distinct := fun c hc st hst => ((hcpus c hc).buffer st hst).distinct
      pcs := fun c hc => (hcpus c hc).pc
      records := fun c hc => (hcpus c hc).record
      facilities := hfacilities }

/-- Every CPU of a sound state is sound. -/
theorem State.Sound.cpus {s : State} (h : s.Sound) : ∀ c ∈ s.cpus, c.SoundIn s :=
  have ⟨_, _, hcpus⟩ := State.sound_iff.mp h
  hcpus

/-- The active CPU of a sound state is sound. -/
theorem State.Sound.cpu {s : State} (h : s.Sound) : s.cpu.SoundIn s := h.cpus s.cpu List.mem_cons_self

/-- STORAGE is the same in a state of the same configuration. -/
theorem State.SameConfiguration.present {s t : State} (h : s.SameConfiguration t) (as : List Nat) :
    t.present as = s.present as := by
  simp only [State.present, h.fixed.regions]

/-- Whether a CPU is sound depends on the state's configuration only. -/
theorem Cpu.SoundIn.congr {c : Cpu} {s t : State} (hc : c.SoundIn s) (h : s.SameConfiguration t) : c.SoundIn t where
  pc := hc.pc
  record := hc.record
  buffer st hst :=
    { safe := fun x hx => by rw [h.present, h.text]; exact (hc.buffer st hst).safe x hx
      distinct := (hc.buffer st hst).distinct }

/-- A change that keeps the configuration keeps soundness when it keeps storage canonical and leaves sound CPUs. -/
theorem State.Sound.of_sameConfiguration {s t : State} (h : s.Sound) (hsame : s.SameConfiguration t)
    (hwf : Memory.wf t.storage) (hcpus : ∀ c ∈ t.cpus, c.SoundIn s) : t.Sound := by
  refine State.sound_iff.mpr ⟨hwf, ?_, fun c hc => (hcpus c hc).congr hsame⟩
  have hfacilities := h.facilities
  rwa [State.facilitiesSound, hsame.fixed.facilities] at hfacilities

/-- A change inside the frame of an instruction keeps soundness when it keeps storage canonical and leaves a sound
active CPU. -/
theorem State.Sound.of_keeps {s t : State} {written : List Reg} (h : s.Sound) (hkeeps : s.Keeps t written)
    (hwf : Memory.wf t.storage) (hcpu : t.cpu.SoundIn s) : t.Sound := by
  refine h.of_sameConfiguration hkeeps.sameConfiguration hwf (List.forall_mem_cons.mpr ⟨hcpu, fun c hc => ?_⟩)
  rw [hkeeps.others] at hc
  exact h.cpus c (List.mem_cons_of_mem _ hc)

/-- A store of at most eight bytes, all in STORAGE and outside program text, may wait in the buffer. -/
theorem BufferedStore.soundIn_of_store {s : State} {a : Dword} {bs : List Byte} (h8 : bs.length ≤ 8)
    (hpresent : s.present (s.operand a bs.length) = true) (htext : ∀ x ∈ s.operand a bs.length, s.hasText x = false) :
    BufferedStore.SoundIn ⟨pieces a ((s.operand a bs.length).zip bs)⟩ s where
  safe x hx := by
    rw [flatten_pieces] at hx
    have hmem : x.1 ∈ s.operand a bs.length := (List.of_mem_zip hx).1
    exact ⟨List.all_eq_true.mpr fun y hy => by
      obtain rfl := List.mem_singleton.mp hy
      exact List.all_eq_true.mp hpresent _ hmem, htext _ hmem⟩
  distinct := by
    rw [flatten_pieces, List.map_fst_zip (by simp [State.operand, operandAddresses])]
    exact operandAddresses_nodup _ _ (by omega)

/-- A store without one of its pieces may wait where the whole store may. -/
theorem BufferedStore.SoundIn.eraseIdx {st : BufferedStore} {s : State} (h : st.SoundIn s) (p : Nat) :
    BufferedStore.SoundIn ⟨st.units.eraseIdx p⟩ s :=
  have hsub : (st.units.eraseIdx p).flatten.Sublist st.units.flatten := (List.eraseIdx_sublist ..).flatten
  ⟨fun x hx => h.safe x (hsub.subset hx), h.distinct.sublist (hsub.map _)⟩

/-! ## Every move keeps the sound states -/

/-- Every shared operation keeps the sound states. -/
theorem Effect.sound {s t : State} (h : Effect s t) (hs : s.Sound) : t.Sound := by
  induction h with
  | refl => exact hs
  | setGr r v _ ih =>
    exact ih.of_keeps (State.keeps_update _ (fun q hq => absurd (List.mem_finRange q) hq) ..) ih.canonical
      ⟨ih.cpu.pc, ih.cpu.record, ih.cpu.buffer⟩
  | setCc c _ ih =>
    exact ih.of_keeps (State.keeps_update_of_gr _ [] ..) ih.canonical
      ⟨ih.cpu.pc, ih.cpu.record, ih.cpu.buffer⟩
  | jump a heven hwrap _ ih =>
    exact ih.of_keeps (State.keeps_update_of_gr _ [] ..) ih.canonical
      ⟨⟨heven ih.cpu.pc.1, hwrap⟩, ih.cpu.record, ih.cpu.buffer⟩
  | drainAll _ ih =>
    exact ih.of_keeps (State.keeps_update_of_gr _ [] ..) (drainAll_wf ih.canonical)
      ⟨ih.cpu.pc, ih.cpu.record, fun _ hst => absurd hst List.not_mem_nil⟩
  | bufferStore a bs h8 hpresent htext _ ih =>
    refine ih.of_keeps (State.keeps_update_of_gr _ [] ..) ih.canonical
      ⟨ih.cpu.pc, ih.cpu.record, fun st hst => ?_⟩
    rcases List.mem_append.mp hst with hold | hnew
    · exact ih.cpu.buffer st hold
    · obtain rfl := List.mem_singleton.mp hnew
      exact BufferedStore.soundIn_of_store h8 hpresent htext
  | writeStorage a bs _ _ _ ih =>
    exact ih.of_keeps (State.keeps_update_of_gr _ [] ..) (writeStorage_wf ih.canonical a bs) ih.cpu
  | draw _ ih =>
    exact ih.of_keeps (State.keeps_update_of_gr _ [] ..) ih.canonical ih.cpu
  | takeException e ia n _ ih =>
    refine ih.of_keeps (State.keeps_update_of_gr _ [] ..) ih.canonical
      ⟨ih.cpu.pc, fun r hr => ?_, ih.cpu.buffer⟩
    cases hr
    rfl

/-- Making a piece of the oldest store visible keeps the sound states. -/
theorem State.Sound.drainPiece {s t : State} {p : Nat} (hs : s.Sound) (h : s.drainPiece p = some t) : t.Sound := by
  obtain ⟨st, rest, cells, hbuffer, -, rfl⟩ := State.drainPiece_some h
  obtain ⟨hst, hrest⟩ := List.forall_mem_cons.mp (hbuffer ▸ hs.cpu.buffer)
  refine hs.of_keeps (State.keeps_update_of_gr _ [] ..) (Memory.writeCells_wf _ hs.canonical)
    ⟨hs.cpu.pc, hs.cpu.record, ?_⟩
  show ∀ st' ∈ (if (st.units.eraseIdx p).isEmpty then rest else ⟨st.units.eraseIdx p⟩ :: rest), st'.SoundIn s
  split
  · exact hrest
  · exact List.forall_mem_cons.mpr ⟨hst.eraseIdx p, hrest⟩

/-- Switching keeps the sound states: the CPUs are the same. -/
theorem State.Sound.switchTo {s t : State} {k : Nat} (hs : s.Sound) (h : s.switchTo k = some t) : t.Sound := by
  refine hs.of_sameConfiguration (State.sameConfiguration_switchTo h) ?_ fun c hc =>
    hs.cpus c ((State.switchTo_perm h).mem_iff.mp hc)
  obtain ⟨-, rfl⟩ := State.switchTo_some h
  exact hs.canonical

/-- Every move keeps the sound states. -/
theorem StepEffect.sound {s t : State} (h : StepEffect s t) (hs : s.Sound) : t.Sound := by
  induction h with
  | reschedule moves => exact hs.of_sameConfiguration (s.sameConfiguration_schedule moves) hs.canonical hs.cpus
  | instruction _ heffect ih => exact heffect.sound ih
  | finish _ ih =>
    exact ih.of_keeps (State.keeps_update_of_gr _ [] ..) ih.canonical
      ⟨ih.cpu.pc, fun _ hr => (nomatch hr), ih.cpu.buffer⟩
  | drainPiece p _ hdrain ih => exact ih.drainPiece hdrain
  | fetchEarly a n _ ih =>
    exact ih.of_keeps (State.keeps_update_of_gr _ [] ..) ih.canonical
      ⟨ih.cpu.pc, ih.cpu.record, ih.cpu.buffer⟩
  | switchTo k _ hswitch ih => exact ih.switchTo hswitch
  | channelStore as bytes _ _ _ ih =>
    exact ih.of_keeps (State.keeps_update_of_gr _ [] ..) (Memory.writeCells_wf _ ih.canonical) ih.cpu

/-- Settles O11: every move keeps the sound states, and a step is made of moves. -/
theorem stepKeepsSound : Obligations.StepKeepsSound := fun _ _ hs h => (step_effect h).sound hs

/-- Settles O12: nothing is stored or buffered, the CPU operates at pc zero, and bits 76 and 77 are both one. -/
theorem resetSound : Obligations.ResetSound :=
  State.sound_iff.mpr ⟨reset_storage_wf, fun _ => by decide, fun c hc => by
    obtain rfl := List.mem_singleton.mp hc
    exact ⟨⟨rfl, rfl⟩, fun _ hr => (nomatch hr), fun _ hst => absurd hst List.not_mem_nil⟩⟩

/-! ## Instruction fetch -/

/-- A byte cannot be fetched when it is outside STORAGE or outside the CPU's program text. -/
theorem State.fetchable_eq_false {s : State} {a : Nat} :
    s.fetchable a = false ↔ s.present [a] = false ∨ s.cpu.hasText a = false := Bool.and_eq_false_iff

/-- Nothing is fetched at an odd pc. -/
theorem State.fetchedLength_of_odd {s : State} (hodd : s.cpu.psw.pc.toNat % 2 = 1) : s.fetchedLength = none := by
  simp [State.fetchedLength, hodd]

/-- The length at an even pc: the first byte gives it, where it can be fetched. -/
theorem State.fetchedLength_of_even {s : State} (heven : s.cpu.psw.pc.toNat % 2 = 0) :
    s.fetchedLength =
      if s.fetchable (s.cpu.psw.amode.wrap s.cpu.psw.pc).toNat then
        some (instructionLength (Memory.read s.storage (s.cpu.psw.amode.wrap s.cpu.psw.pc).toNat))
      else none := by
  simp [State.fetchedLength, State.operand_one, heven]

/-- The fetch at an odd pc. -/
theorem State.fetchInstruction_of_odd {s : State} (hodd : s.cpu.psw.pc.toNat % 2 = 1) :
    s.fetchInstruction = .error .specification := by
  simp [State.fetchInstruction, hodd]

/-- The fetch at an even pc whose first byte cannot be fetched. -/
theorem State.fetchInstruction_of_none {s : State} (heven : s.cpu.psw.pc.toNat % 2 = 0)
    (hlength : s.fetchedLength = none) : s.fetchInstruction = .error .addressing := by
  simp [State.fetchInstruction, heven, hlength]

/-- The fetch of an instruction whose length is known: all its bytes, or an addressing exception. -/
theorem State.fetchInstruction_of_some {s : State} {n : Nat} (hlength : s.fetchedLength = some n) :
    s.fetchInstruction =
      if (s.operand s.cpu.psw.pc n).all s.fetchable then .ok ((s.operand s.cpu.psw.pc n).map (Memory.read s.storage))
      else .error .addressing := by
  obtain ⟨heven, -, -⟩ := State.fetchedLength_some hlength
  simp [State.fetchInstruction, heven, hlength]

/-- Away from its end addresses the active CPU takes the exception that its fetch meets. -/
theorem runActive_of_fetch_error {s : State} {e : ProgramException} (hend : s.cpu.psw.pc ∉ s.cpu.endAddresses)
    (hfetch : s.fetchInstruction = .error e) :
    runActive s = .next (s.takeException e s.cpu.psw.pc s.fetchedLength) := by
  simp only [runActive, List.contains_iff_mem, if_neg hend, hfetch]

/-- A step takes the exception that the fetch meets: neither the fetch nor the end addresses depend on the schedule. -/
theorem State.stepIs_of_fetch_error {s : State} {e : ProgramException} (hop : s.cpu.status = .operating)
    (hend : s.cpu.psw.pc ∉ s.cpu.endAddresses) (hfetch : s.fetchInstruction = .error e) :
    s.StepIs fun u => .next (u.takeException e s.cpu.psw.pc s.fetchedLength) :=
  State.stepIs_of_runActive hop fun moves =>
    runActive_of_fetch_error (s := { s with schedule := moves }) hend hfetch

/-- Settles O7: an odd pc, a first byte that cannot be fetched, and another byte that cannot be. -/
theorem fetchExceptions : Obligations.FetchExceptions := by
  intro s hop hend stops absent first ilen
  have hstops {e : ProgramException} {n : Option Nat} (hfetch : s.fetchInstruction = .error e)
      (hlength : s.fetchedLength = n) : stops e n := hlength ▸ State.stepIs_of_fetch_error hop hend hfetch
  refine ⟨fun hodd => ?_, fun heven habsent => ?_, fun heven hfirst hbyte => ?_⟩
  · exact hstops (State.fetchInstruction_of_odd hodd) (State.fetchedLength_of_odd hodd)
  · have hfetchable : s.fetchable first = false := State.fetchable_eq_false.mpr habsent
    have hlength : s.fetchedLength = none := by simp [State.fetchedLength_of_even heven, first, hfetchable]
    exact hstops (State.fetchInstruction_of_none heven hlength) hlength
  · have hfetchable : s.fetchable first = true := by
      rwa [← Bool.not_eq_false, State.fetchable_eq_false]
    have hlength : s.fetchedLength = some ilen := by
      rw [State.fetchedLength_of_even heven, if_pos hfetchable]
    have hall : ¬ (s.operand s.cpu.psw.pc ilen).all s.fetchable = true := by
      obtain ⟨a, ha, habsent⟩ := hbyte
      intro hall
      have hfalse := State.fetchable_eq_false.mpr habsent
      exact Bool.false_ne_true (hfalse.symm.trans (List.all_eq_true.mp hall a ha))
    exact hstops (by rw [State.fetchInstruction_of_some hlength, if_neg hall]) hlength

/-- An operand begins at its wrapped address. -/
theorem State.operand_succ (s : State) (a : Dword) (n : Nat) :
    ∃ as, s.operand a (n + 1) = (s.cpu.psw.amode.wrap a).toNat :: as := by
  simp [State.operand, operandAddresses, List.range_succ_eq_map]

/-- The fetch at an even pc of bytes that stand there and can be fetched, their first giving their number. -/
theorem State.fetchInstruction_of_bytes {s : State} {b : Byte} {rest : List Byte}
    (heven : s.cpu.psw.pc.toNat % 2 = 0) (hlength : (b :: rest).length = instructionLength b)
    (hfetchable : ∀ a ∈ s.operand s.cpu.psw.pc (b :: rest).length, s.fetchable a = true)
    (hbytes : (s.operand s.cpu.psw.pc (b :: rest).length).map (Memory.read s.storage) = b :: rest) :
    s.fetchInstruction = .ok (b :: rest) := by
  obtain ⟨as, hoperand⟩ := s.operand_succ s.cpu.psw.pc rest.length
  have hhead : s.fetchable (s.cpu.psw.amode.wrap s.cpu.psw.pc).toNat = true :=
    hfetchable _ (hoperand ▸ List.mem_cons_self)
  have hread : Memory.read s.storage (s.cpu.psw.amode.wrap s.cpu.psw.pc).toNat = b := by
    rw [List.length_cons, hoperand] at hbytes
    exact (List.cons.inj hbytes).1
  have hknown : s.fetchedLength = some (b :: rest).length := by
    rw [State.fetchedLength_of_even heven, if_pos hhead, hread, hlength]
  rw [State.fetchInstruction_of_some hknown, if_pos (List.all_eq_true.mpr hfetchable), hbytes]

/-- Settles O6: the fetch answers the text of the instruction, which decodes to it, and a step runs what it decodes. -/
theorem programTextRuns : Obligations.ProgramTextRuns := by
  intro s i hop hend heven hpresent hbytes
  obtain ⟨b, rest, hencode, hlength⟩ := encodedLength i
  refine stepRunsDecoded s (encode i) i hop hend ?_ (decode_encode i)
  rw [hencode] at hpresent hbytes hlength ⊢
  exact State.fetchInstruction_of_bytes heven hlength
    (fun a ha => Bool.and_eq_true_iff.mpr (hpresent a ha)) hbytes

/-! ## What no instruction reads

Every read of the state is the same after `State.withUnread`, and every update commutes with it, both by definition;
what is left to follow is each meaning's branches. -/

/-- An outcome with the unread state of its next state replaced. -/
abbrev Result.withUnread (r : Result) (d : State) : Result := r.mapNext fun t => t.withUnread d

section
variable {s d : State} {n il : Nat}

/-- A branch that the unread state does not decide. -/
theorem ite_withUnread {c : Prop} [Decidable c] {a b a' b' : Result} (ha : a' = Result.withUnread a d)
    (hb : b' = Result.withUnread b d) : (if c then a' else b') = Result.withUnread (if c then a else b) d := by
  split <;> assumption

/-- A state that the unread state does not choose. -/
theorem State.ite_withUnread {c : Prop} [Decidable c] {t u t' u' : State} (ht : t' = t.withUnread d)
    (hu : u' = u.withUnread d) : (if c then t' else u') = (if c then t else u).withUnread d := by
  split <;> assumption

/-- The end of an instruction without an exception. -/
theorem advance_withUnread {t t' : State} (ht : t' = t.withUnread d) :
    Host.Outcome.next (t'.advance n) = Result.withUnread (.next (t.advance n)) d := ht ▸ rfl

/-! ### The shared parts of the meanings -/

theorem requireFacility_withUnread {k k' : Result} (hk : k' = k.withUnread d) :
    requireFacility n (s.withUnread d) k' = (requireFacility n s k).withUnread d :=
  ite_withUnread hk rfl

theorem requireDesignation_withUnread {ok : Bool} {k k' : Result} (hk : k' = k.withUnread d) :
    requireDesignation ok n (s.withUnread d) k' = (requireDesignation ok n s k).withUnread d :=
  ite_withUnread hk rfl

theorem requirePresent_withUnread {as : List Nat} {k k' : Result} (hk : k' = k.withUnread d) :
    requirePresent as n (s.withUnread d) k' = (requirePresent as n s k).withUnread d :=
  ite_withUnread hk rfl

theorem requireNoText_withUnread {as : List Nat} {k k' : Result} (hk : k' = k.withUnread d) :
    requireNoText as (s.withUnread d) k' = (requireNoText as s k).withUnread d :=
  ite_withUnread rfl hk

theorem complete_withUnread {o : Bool} {t t' : State} (ht : t' = t.withUnread d) :
    complete n o (s.withUnread d) t' = (complete n o s t).withUnread d :=
  ite_withUnread (ht ▸ rfl) (ht ▸ rfl)

theorem conditionFalse_withUnread {a : Dword} :
    conditionFalse a n il (s.withUnread d) = (conditionFalse a n il s).withUnread d :=
  ite_withUnread rfl rfl

theorem withFetch_withUnread {a : Dword} {k k' : Nat → Result} (hk : ∀ v, k' v = (k v).withUnread d) :
    withFetch a n il (s.withUnread d) k' = (withFetch a n il s k).withUnread d :=
  requirePresent_withUnread (hk _)

theorem withStore_withUnread {w : Nat} {a : Dword} {v : BitVec w} {k k' : State → Result}
    (hk : ∀ t, k' (t.withUnread d) = (k t).withUnread d) :
    withStore a n v il (s.withUnread d) k' = (withStore a n v il s k).withUnread d :=
  requirePresent_withUnread (requireNoText_withUnread (hk (s.bufferStore a (bytesOf n v))))

theorem withInterlocked_withUnread {a : Dword} {k k' : State → Nat → Result}
    (hk : ∀ t v, k' (t.withUnread d) v = (k t v).withUnread d) :
    withInterlocked a n il (s.withUnread d) k' = (withInterlocked a n il s k).withUnread d :=
  requirePresent_withUnread (requireNoText_withUnread (hk s.drainAll _))

theorem withUpdate_withUnread {a : Dword} {k k' : Nat → Result} (hk : ∀ v, k' v = (k v).withUnread d) :
    withUpdate a n il (s.withUnread d) k' = (withUpdate a n il s k).withUnread d :=
  requirePresent_withUnread (requireNoText_withUnread (hk _))

/-! ### The families -/

theorem arithmeticHigh_withUnread {r : Reg} {a : Arith 32} :
    arithmeticHigh n r a (s.withUnread d) = (arithmeticHigh n r a s).withUnread d :=
  requireFacility_withUnread (complete_withUnread rfl)

theorem arithmeticLow_withUnread {r : Reg} {a : Arith 32} :
    arithmeticLow n r a (s.withUnread d) = (arithmeticLow n r a s).withUnread d :=
  requireFacility_withUnread (complete_withUnread rfl)

theorem arithmeticFull_withUnread {r : Reg} {a : Arith 64} :
    arithmeticFull n r a (s.withUnread d) = (arithmeticFull n r a s).withUnread d :=
  requireFacility_withUnread (complete_withUnread rfl)

theorem compareHigh_withUnread {c : CondCode} :
    compareHigh n c (s.withUnread d) = (compareHigh n c s).withUnread d :=
  requireFacility_withUnread rfl

theorem compareHighStorage_withUnread {f : Word → Word → CondCode} {r1 : Reg} {d2 : Disp20} {x2 b2 : Reg} :
    compareHighStorage f r1 d2 x2 b2 (s.withUnread d) = (compareHighStorage f r1 d2 x2 b2 s).withUnread d :=
  requireFacility_withUnread (withFetch_withUnread fun _ => rfl)

theorem loadHigh_withUnread {f : Nat → Word} {r1 : Reg} {d2 : Disp20} {x2 b2 : Reg} :
    loadHigh n f r1 d2 x2 b2 (s.withUnread d) = (loadHigh n f r1 d2 x2 b2 s).withUnread d :=
  requireFacility_withUnread (withFetch_withUnread fun _ => rfl)

theorem storeHigh_withUnread {w : Nat} {v : BitVec w} {d2 : Disp20} {x2 b2 : Reg} :
    storeHigh n v d2 x2 b2 (s.withUnread d) = (storeHigh n v d2 x2 b2 s).withUnread d :=
  requireFacility_withUnread (withStore_withUnread fun _ => rfl)

theorem loadAndUpdate32_withUnread {f : Word → Word → Arith 32} {r1 r3 : Reg} {d2 : Disp20} {b2 : Reg} :
    loadAndUpdate32 f r1 r3 d2 b2 (s.withUnread d) = (loadAndUpdate32 f r1 r3 d2 b2 s).withUnread d :=
  requireFacility_withUnread (requireDesignation_withUnread (withInterlocked_withUnread fun _ _ =>
    complete_withUnread rfl))

theorem loadAndUpdate64_withUnread {f : Dword → Dword → Arith 64} {r1 r3 : Reg} {d2 : Disp20} {b2 : Reg} :
    loadAndUpdate64 f r1 r3 d2 b2 (s.withUnread d) = (loadAndUpdate64 f r1 r3 d2 b2 s).withUnread d :=
  requireFacility_withUnread (requireDesignation_withUnread (withInterlocked_withUnread fun _ _ =>
    complete_withUnread rfl))

theorem loadPair_withUnread {put : State → Reg → Nat → State} {r3 : Reg} {d1 : Disp12} {b1 : Reg} {d2 : Disp12}
    {b2 : Reg} (hput : ∀ t r v, put (t.withUnread d) r v = (put t r v).withUnread d) :
    loadPair n put r3 d1 b1 d2 b2 (s.withUnread d) = (loadPair n put r3 d1 b1 d2 b2 s).withUnread d :=
  requireFacility_withUnread (requireDesignation_withUnread (requirePresent_withUnread (requirePresent_withUnread
    (advance_withUnread (congrArg (State.setCc · _)
      ((congrArg (put · _ _) (hput { s with draws := s.draws + 1 } ..)).trans (hput ..)))))))

theorem addToStorage_withUnread {w : Nat} {f : BitVec w → BitVec w → Arith w} {i : BitVec w} {d1 : Disp20} {b1 : Reg} :
    addToStorage n f i d1 b1 (s.withUnread d) = (addToStorage n f i d1 b1 s).withUnread d :=
  ite_withUnread (withInterlocked_withUnread fun _ _ => complete_withUnread rfl)
    (withUpdate_withUnread fun _ => complete_withUnread rfl)

theorem loadOnCondition_withUnread {put put' : Nat → State} {d2 : Disp20} {b2 : Reg} {m3 : Mask}
    (hput : ∀ v, put' v = (put v).withUnread d) :
    loadOnCondition n put' d2 b2 m3 (s.withUnread d) = (loadOnCondition n put d2 b2 m3 s).withUnread d :=
  requireFacility_withUnread (ite_withUnread
    (withFetch_withUnread fun v => advance_withUnread (hput v))
    conditionFalse_withUnread)

theorem storeOnCondition_withUnread {w : Nat} {v : BitVec w} {d2 : Disp20} {b2 : Reg} {m3 : Mask} :
    storeOnCondition n v d2 b2 m3 (s.withUnread d) = (storeOnCondition n v d2 b2 m3 s).withUnread d :=
  requireFacility_withUnread (ite_withUnread (withStore_withUnread fun _ => rfl) conditionFalse_withUnread)

/-! ### The meanings with a branch of their own -/

theorem execBrcth_withUnread {r1 : Reg} {ri2 : Word} :
    execBrcth r1 ri2 (s.withUnread d) = (execBrcth r1 ri2 s).withUnread d :=
  requireFacility_withUnread (ite_withUnread rfl rfl)

theorem execLocr_withUnread {r1 r2 : Reg} {m3 : Mask} :
    execLocr r1 r2 m3 (s.withUnread d) = (execLocr r1 r2 m3 s).withUnread d :=
  requireFacility_withUnread (advance_withUnread (State.ite_withUnread rfl rfl))

theorem execLocgr_withUnread {r1 r2 : Reg} {m3 : Mask} :
    execLocgr r1 r2 m3 (s.withUnread d) = (execLocgr r1 r2 m3 s).withUnread d :=
  requireFacility_withUnread (advance_withUnread (State.ite_withUnread rfl rfl))

theorem execBcr_14_0_withUnread : execBcr_14_0 (s.withUnread d) = (execBcr_14_0 s).withUnread d :=
  ite_withUnread rfl rfl

/-! ### Every instruction -/

/-- Replacing the unread state commutes with every instruction. -/
theorem exec_withUnread (i : Instr) : exec i (s.withUnread d) = Result.withUnread (exec i s) d := by
  cases i with
  | ahhhr | ahhlr | aih | alhhhr | alhhlr | alsih | shhhr | shhlr | slhhhr | slhhlr => exact arithmeticHigh_withUnread
  | ark | ahik | alrk | alhsik | nrk | xrk | ork | slak | srak | srk | slrk => exact arithmeticLow_withUnread
  | agrk | aghik | algrk | alghsik | ngrk | xgrk | ogrk | sgrk | slgrk => exact arithmeticFull_withUnread
  | alsihn | risbhg | risblg | sllk | srlk | popcnt => exact requireFacility_withUnread rfl
  | brcth => exact execBrcth_withUnread
  | chhr | chlr | cih | clhhr | clhlr | clih => exact compareHigh_withUnread
  | chf | clhf => exact compareHighStorage_withUnread
  | lbh | lhh | lfh | llch | llhh => exact loadHigh_withUnread
  | stch | sthh | stfh => exact storeHigh_withUnread
  | laa | laal | lan | lax | lao => exact loadAndUpdate32_withUnread
  | laag | laalg | lang | laxg | laog => exact loadAndUpdate64_withUnread
  | lpd => exact loadPair_withUnread (put := State.putLow) fun _ _ _ => rfl
  | lpdg => exact loadPair_withUnread (put := State.putFull) fun _ _ _ => rfl
  | asi | agsi | alsi | algsi => exact addToStorage_withUnread
  | locr => exact execLocr_withUnread
  | locgr => exact execLocgr_withUnread
  | loc | locg => exact loadOnCondition_withUnread fun _ => rfl
  | stoc | stocg => exact storeOnCondition_withUnread
  | bcr_14_0 => exact execBcr_14_0_withUnread
  | bcr_15_0 => rfl
  | cxlfbr | cdlfbr | celfbr | cxlgbr | cdlgbr | celgbr | clfxbr | clfdbr | clfebr | clgxbr | clgdbr | clgebr
  | srnmb | cxfbra | cdfbra | cefbra | cxgbra | cdgbra | cegbra | cfxbra | cfdbra | cfebra | cgxbra | cgdbra
  | cgebra | fixbra | fidbra | fiebra | ldxbra | lexbra | ledbra | cxftr | cdftr | cxlftr | cdlftr | cxlgtr
  | cdlgtr | cfxtr | cfdtr | clfxtr | clfdtr | clgxtr | clgdtr | axtra | adtra | cxgtra | cdgtra | cgxtra
  | cgdtra | dxtra | ddtra | mxtra | mdtra | sxtra | sdtra | pckmo | kmf | kmctr | kmo | pcc => rfl

end

/-- Settles O17: every read is the same and every update commutes, instruction by instruction. -/
theorem unreadState : Obligations.UnreadState := fun i _ _ => exec_withUnread i

end Sys2Proof.Machine
end

section
/-! PROOFS. Storage (20_memory): byte order, what a read and a fetch answer after a store, when stores become visible,
and that program text is never stored into. -/

namespace Sys2Proof

/-! ## Byte order -/

/-- Byte `i` of a value of `n` bytes, the most significant first (20_memory R62). -/
theorem getElem_bytesOf {w : Nat} (n : Nat) (v : BitVec w) (i : Nat) (h : i < (bytesOf n v).length) :
    (bytesOf n v)[i] = v.extractLsb' (8 * (n - 1 - i)) 8 := by
  induction n generalizing i with
  | zero => exact absurd h (Nat.not_lt_zero i)
  | succ k ih =>
    cases i with
    | zero => rfl
    | succ j =>
      have hplace : k + 1 - 1 - (j + 1) = k - 1 - j := by omega
      rw [hplace]
      exact ih j (Nat.lt_of_succ_lt_succ h)

/-- The value read back from the rightmost `n` bytes of a value. -/
theorem beValue_bytesOf {w : Nat} (n : Nat) (v : BitVec w) : beValue (bytesOf n v) = v.toNat % 256 ^ n := by
  induction n with
  | zero => simp [bytesOf, beValue, Nat.mod_one]
  | succ k ih =>
    have hfirst : (v.extractLsb' (8 * k) 8).toNat = v.toNat / 256 ^ k % 256 := by
      rw [BitVec.extractLsb'_toNat, Nat.shiftRight_eq_div_pow, Nat.pow_mul]
    calc beValue (bytesOf (k + 1) v)
      _ = (v.extractLsb' (8 * k) 8).toNat * 256 ^ k + beValue (bytesOf k v) := by
        simp only [bytesOf, beValue, length_bytesOf]
      _ = v.toNat % 256 ^ k + 256 ^ k * (v.toNat / 256 ^ k % 256) := by
        rw [hfirst, ih, Nat.mul_comm, Nat.add_comm]
      _ = v.toNat % 256 ^ (k + 1) := by rw [Nat.pow_succ, Nat.mod_mul]

/-- The leftmost `m` bytes of a value of `m + k` bytes (20_memory R62). -/
theorem take_bytesOf {w : Nat} (m k : Nat) (v : BitVec w) :
    (bytesOf (m + k) v).take m = bytesOf m (v >>> (8 * k)) := by
  induction m with
  | zero => rfl
  | succ j ih =>
    have hfirst : v.extractLsb' (8 * (j + k)) 8 = (v >>> (8 * k)).extractLsb' (8 * j) 8 := by
      apply BitVec.eq_of_getLsbD_eq
      intro i hi
      have hplace : 8 * (j + k) + i = 8 * k + (8 * j + i) := by omega
      simp only [BitVec.getLsbD_extractLsb', BitVec.getLsbD_ushiftRight, hplace]
    rw [Nat.succ_add, bytesOf, bytesOf, List.take_succ_cons, ih, hfirst]

/-- A value of no more than `n` bytes is read back from them. -/
theorem beValue_bytesOf_of_lt {w n : Nat} {v : BitVec w} (h : v.toNat < 2 ^ (8 * n)) :
    beValue (bytesOf n v) = v.toNat := by
  rw [Nat.pow_mul] at h
  rw [beValue_bytesOf, Nat.mod_eq_of_lt h]

/-- Without its `k` rightmost bytes a value of `m + k` bytes is one of `m` bytes. -/
theorem toNat_ushiftRight_lt {w m k : Nat} (hw : w = 8 * (m + k)) (v : BitVec w) :
    (v >>> (8 * k)).toNat < 2 ^ (8 * m) := by
  rw [BitVec.toNat_ushiftRight, Nat.shiftRight_eq_div_pow]
  apply Nat.div_lt_of_lt_mul
  calc v.toNat
    _ < 2 ^ w := v.isLt
    _ = 2 ^ (8 * k) * 2 ^ (8 * m) := by rw [← Nat.pow_add, hw, Nat.mul_add, Nat.add_comm]

/-- Settles O18: by induction on the number of bytes. -/
theorem bigEndian : Obligations.BigEndian := by
  intro n w v
  refine ⟨length_bytesOf n v, getElem_bytesOf n v, fun hw => beValue_bytesOf_of_lt ?_⟩
  subst hw
  exact v.isLt

end Sys2Proof

namespace Sys2Proof.Machine

/-! ## Bytes at addresses -/

/-- Where no two bytes have one address, the byte found for an address is the one that stands there. -/
theorem lookup_eq_some_iff_mem {cells : List Host.Cell} (hn : (cells.map (·.1)).Nodup) {a : Nat} {b : Byte} :
    cells.lookup a = some b ↔ (a, b) ∈ cells := by
  induction cells with
  | nil => simp
  | cons c rest ih =>
    obtain ⟨k, v⟩ := c
    obtain ⟨hk, hrest⟩ := List.nodup_cons.mp (List.map_cons ▸ hn)
    rw [List.lookup_cons, List.mem_cons]
    by_cases ha : a = k
    · subst ha
      have hnotmem : (a, b) ∉ rest := fun hmem => hk (List.mem_map_of_mem (f := (·.1)) hmem)
      simp [hnotmem, eq_comm]
    · simp [beq_false_of_ne ha, ha, ih hrest]

/-- The byte found for an address does not depend on the order, where no two bytes have one address. -/
theorem lookup_eq_of_perm {l l' : List Host.Cell} (hn : (l.map (·.1)).Nodup) (hperm : l.Perm l') (a : Nat) :
    l.lookup a = l'.lookup a := by
  have hn' : (l'.map (·.1)).Nodup := (hperm.map _).nodup_iff.mp hn
  ext b
  rw [lookup_eq_some_iff_mem hn, lookup_eq_some_iff_mem hn', hperm.mem_iff]

/-- A read after some bytes at different addresses are written: the byte written there, or the old one. -/
theorem Memory.read_writeCells {cells : List Host.Cell} {m : List Host.Cell} (h : Memory.wf m)
    (hn : (cells.map (·.1)).Nodup) (a : Nat) :
    Memory.read (Memory.writeCells m cells) a = (cells.lookup a).getD (Memory.read m a) := by
  cases hfound : cells.lookup a with
  | some b => exact Memory.read_writeCells_mem cells h hn ((lookup_eq_some_iff_mem hn).mp hfound)
  | none =>
    refine Memory.read_writeCells_other cells h fun c hc heq => ?_
    simpa [heq] using List.lookup_eq_none_iff.mp hfound c hc

/-! ## The store buffer -/

/-- A buffered store has the byte that stands in its pieces. -/
theorem BufferedStore.byte_eq_lookup (st : BufferedStore) (a : Nat) : st.byte a = st.units.flatten.lookup a := by
  obtain ⟨units⟩ := st
  induction units with
  | nil => rfl
  | cons u us ih =>
    have htail : us.findSome? (List.lookup a) = us.flatten.lookup a := ih
    rw [BufferedStore.byte, List.findSome?_cons, List.flatten_cons, List.lookup_append, htail]
    cases u.lookup a <;> rfl

/-- Making a store visible writes the bytes of its pieces. -/
theorem Memory.writeStore_eq_writeCells (m : List Host.Cell) (st : BufferedStore) :
    Memory.writeStore m st = Memory.writeCells m st.units.flatten := List.foldl_flatten.symm

/-- A read after a store has become visible. -/
theorem Memory.read_writeStore {m : List Host.Cell} {st : BufferedStore} (h : Memory.wf m)
    (hn : (st.units.flatten.map (·.1)).Nodup) (a : Nat) :
    Memory.read (Memory.writeStore m st) a = (st.byte a).getD (Memory.read m a) := by
  rw [Memory.writeStore_eq_writeCells, Memory.read_writeCells h hn, BufferedStore.byte_eq_lookup]

/-- The buffer's byte for an address, when newer stores stand behind older ones. -/
theorem bufferedByte_append (older newer : List BufferedStore) (a : Nat) :
    bufferedByte (older ++ newer) a = (bufferedByte newer a).or (bufferedByte older a) := by
  induction older with
  | nil => simp [bufferedByte]
  | cons st rest ih => rw [List.cons_append, bufferedByte, ih, Option.or_assoc, bufferedByte]

/-- A read after all stores of a buffer have become visible, in order: the newest store's byte, or the old one. -/
theorem Memory.read_foldl_writeStore {buffer : List BufferedStore} {m : List Host.Cell} (h : Memory.wf m)
    (hn : ∀ st ∈ buffer, (st.units.flatten.map (·.1)).Nodup) (a : Nat) :
    Memory.read (buffer.foldl Memory.writeStore m) a = (bufferedByte buffer a).getD (Memory.read m a) := by
  induction buffer generalizing m with
  | nil => rfl
  | cons st rest ih =>
    obtain ⟨hst, hrest⟩ := List.forall_mem_cons.mp hn
    rw [List.foldl_cons, ih (Memory.writeStore_wf st h) hrest, Memory.read_writeStore h hst, bufferedByte,
      Option.getD_or]

/-- Serialization shows every agent what the CPU sees (20_memory R74). -/
theorem State.Sound.read_drainAll {s : State} (hs : s.Sound) (a : Nat) :
    Memory.read s.drainAll.storage a = s.view a :=
  Memory.read_foldl_writeStore hs.canonical (fun st hst => (hs.cpu.buffer st hst).distinct) a

/-- Where the buffer is empty a CPU sees storage. -/
theorem State.view_of_buffer_nil {s : State} (h : s.cpu.buffer = []) (a : Nat) :
    s.view a = Memory.read s.storage a := by
  simp [State.view, h, bufferedByte]

/-- The number of an operand's bytes. -/
theorem State.length_operand (s : State) (a : Dword) (n : Nat) : (s.operand a n).length = n := by
  simp [State.operand, operandAddresses]

/-- The byte a CPU sees after its store: the one stored at the address, or the one it saw (20_memory R73(1)). -/
theorem State.view_bufferStore (s : State) (a : Dword) (bytes : List Byte) (x : Nat) :
    (s.bufferStore a bytes).view x = (((s.operand a bytes.length).zip bytes).lookup x).getD (s.view x) := by
  have happend := bufferedByte_append s.cpu.buffer [⟨pieces a ((s.operand a bytes.length).zip bytes)⟩] x
  simp only [bufferedByte, Option.none_or, BufferedStore.byte_eq_lookup, flatten_pieces] at happend
  exact (congrArg (Option.getD · _) happend).trans Option.getD_or

/-- What a CPU sees after its store, which is no longer than the smallest address space: the bytes stored, and every
other byte as before (20_memory R73(1)). -/
theorem State.stores_bufferStore (s : State) (a : Dword) {bytes : List Byte} (hlength : bytes.length ≤ 2 ^ 24) :
    s.Stores (s.bufferStore a bytes) a bytes := by
  have hoperand : (s.operand a bytes.length).length = bytes.length := s.length_operand a _
  have hnodup : (((s.operand a bytes.length).zip bytes).map (·.1)).Nodup := by
    rw [List.map_fst_zip hoperand.le]
    exact operandAddresses_nodup _ _ hlength
  constructor
  · refine List.ext_getElem (by simp [hoperand]) fun i hi hi' => ?_
    have hmem : ((s.operand a bytes.length)[i], bytes[i]) ∈ (s.operand a bytes.length).zip bytes :=
      List.mem_iff_getElem.mpr ⟨i, by simpa [hoperand] using hi', List.getElem_zip⟩
    rw [List.getElem_map, s.view_bufferStore, (lookup_eq_some_iff_mem hnodup).mpr hmem, Option.getD_some]
  · intro x hx
    have habsent : ((s.operand a bytes.length).zip bytes).lookup x = none :=
      List.lookup_eq_none_iff.mpr fun c hc => bne_iff_ne.mpr fun heq => hx (heq ▸ (List.of_mem_zip hc).1)
    rw [s.view_bufferStore, habsent, Option.getD_none]

/-! ## Operand fetches -/

/-- The first bytes of an operand. -/
theorem State.operand_eq_take (s : State) (a : Dword) {m n : Nat} (h : m ≤ n) :
    s.operand a m = (s.operand a n).take m := by
  rw [State.operand, State.operand, operandAddresses, operandAddresses, ← List.map_take, List.take_range,
    Nat.min_eq_left h]

/-- A byte that nothing was fetched early for is as the CPU sees it now. -/
theorem State.earlyByte_of_early_nil {s : State} (h : s.cpu.early = []) (a : Nat) : s.earlyByte a = s.view a := by
  simp [State.earlyByte, earlyBytes, h]

/-- A byte is as the CPU sees it now, or as it was fetched early (log 13). -/
theorem State.earlyByte_eq (s : State) (a : Nat) :
    s.earlyByte a = s.view a ∨ ∃ e ∈ s.cpu.early, e.address = a ∧ e.bytes = [s.earlyByte a] := by
  unfold State.earlyByte
  split
  · rename_i b hfound
    obtain ⟨e, he, hbytes⟩ := Option.map_eq_some_iff.mp hfound
    have haddress := List.find?_some he
    simp only [decide_eq_true_eq] at haddress
    exact .inr ⟨e, List.mem_of_find?_eq_some he, haddress.1, hbytes⟩
  · exact .inl rfl

/-- An operand is on its integral boundary when its size divides its address (20_memory R65). -/
theorem aligned_iff {a : Dword} {n : Nat} : aligned a n = true ↔ a.toNat % n = 0 := decide_eq_true_iff

/-- An operand on its boundary is fetched at one instant (20_memory R67). -/
theorem State.fetchOperand_of_aligned (s : State) {a : Dword} {n : Nat} (h : aligned a n = true) :
    s.fetchOperand a n = s.fetchNow (s.operand a n) := if_pos h

/-- An operand off its boundary is fetched byte by byte (20_memory R67). -/
theorem State.fetchOperand_of_not_aligned (s : State) {a : Dword} {n : Nat} (h : ¬ aligned a n = true) :
    s.fetchOperand a n = (s.operand a n).map s.earlyByte := if_neg h

section
variable {s : State} (h : s.cpu.early = []) (a : Dword) (n : Nat)
include h

/-- Nothing fetched early, byte by byte is as good as at one instant. -/
theorem State.map_earlyByte_of_early_nil (as : List Nat) : as.map s.earlyByte = s.fetchNow as :=
  List.map_congr_left fun x _ => State.earlyByte_of_early_nil h x

theorem State.fetchOperand_of_early_nil : s.fetchOperand a n = s.fetchNow (s.operand a n) := by
  unfold State.fetchOperand
  rw [State.map_earlyByte_of_early_nil h, ite_self]

theorem State.fetchBlock_of_early_nil : s.fetchBlock a n = s.fetchNow (s.operand a n) := by
  simp [State.fetchBlock, earlyBytes, h]

theorem State.fetchForUpdate_of_early_nil : s.fetchForUpdate a n = s.fetchNow (s.operand a n) := by
  unfold State.fetchForUpdate
  rw [State.map_earlyByte_of_early_nil h, State.fetchBlock_of_early_nil h, ite_self]

end

/-- An operand fetch answers one byte for each address of the operand, as the CPU sees it now or as it was fetched
early. -/
theorem State.fetchOperand_eq_map (s : State) (a : Dword) (n : Nat) :
    ∃ f : Nat → Byte, s.fetchOperand a n = (s.operand a n).map f ∧
      ∀ x, f x = s.view x ∨ ∃ e ∈ s.cpu.early, e.address = x ∧ e.bytes = [f x] := by
  by_cases h : aligned a n = true
  · exact ⟨s.view, s.fetchOperand_of_aligned h, fun _ => .inl rfl⟩
  · exact ⟨s.earlyByte, s.fetchOperand_of_not_aligned h, s.earlyByte_eq⟩

/-- Settles O22: on its boundary an operand is fetched now, and in every case byte for byte. -/
theorem operandFetch : Obligations.OperandFetch := by
  intro s a n
  obtain ⟨f, hfetch, hbyte⟩ := s.fetchOperand_eq_map a n
  refine ⟨s.fetchOperand_of_aligned, fun hearly => ⟨?_, ?_, ?_⟩, ?_, fun i hi => ?_⟩
  · exact State.fetchOperand_of_early_nil hearly a n
  · exact State.fetchForUpdate_of_early_nil hearly a n
  · exact State.fetchBlock_of_early_nil hearly a n
  · rw [hfetch, List.length_map, State.length_operand]
  · have hin : i < (s.operand a n).length := by rwa [hfetch, List.length_map] at hi
    refine ⟨(s.operand a n)[i], List.getElem?_eq_getElem hin, ?_⟩
    simp only [hfetch, List.getElem_map]
    exact hbyte _

/-! ## What a check lets through -/

theorem requireFacility_of_mem {s : State} (h : 45 ∈ s.facilities) (n : Nat) (k : Result) :
    requireFacility n s k = k := if_pos (List.contains_iff_mem.mpr h)

theorem requireDesignation_of_ok {ok : Bool} (h : ok = true) (n : Nat) (s : State) (k : Result) :
    requireDesignation ok n s k = k := if_pos h

theorem requirePresent_of_present {s : State} {as : List Nat} (h : s.present as = true) (n : Nat) (k : Result) :
    requirePresent as n s k = k := if_pos h

theorem requireNoText_of_forall {s : State} {as : List Nat} (h : ∀ x ∈ as, s.hasText x = false) (k : Result) :
    requireNoText as s k = k := if_neg (by simpa using h)

theorem requireNoText_of_exists {s : State} {as : List Nat} (h : ∃ x ∈ as, s.hasText x = true) (k : Result) :
    requireNoText as s k = .refused .storeIntoProgramText := if_pos (List.any_eq_true.mpr h)

/-! ## A load after a store -/

/-- The state in which an ordinary store, by an instruction of six bytes, ends. -/
def State.storing (s : State) (a : Dword) (bytes : List Byte) : State := (s.bufferStore a bytes).advance 6

/-- A store whose operand is in STORAGE and outside program text completes. -/
theorem storeHigh_of_present {s : State} {w n : Nat} (v : BitVec w) {d : Disp20} {x b : Reg} (h45 : 45 ∈ s.facilities)
    (hpresent : s.present (s.operand (s.addressRxy d x b) n) = true)
    (htext : ∀ a ∈ s.operand (s.addressRxy d x b) n, s.hasText a = false) :
    storeHigh n v d x b s = .next (s.storing (s.addressRxy d x b) (bytesOf n v)) := by
  rw [storeHigh, requireFacility_of_mem h45, withStore, requirePresent_of_present hpresent,
    requireNoText_of_forall htext, State.storing]

/-- A load whose operand is in STORAGE puts what it fetches, widened, into GRH[R1]. -/
theorem loadHigh_of_present {s : State} {n : Nat} (widen : Nat → Word) (r : Reg) {d : Disp20} {x b : Reg}
    (h45 : 45 ∈ s.facilities) (hpresent : s.present (s.operand (s.addressRxy d x b) n) = true) :
    loadHigh n widen r d x b s =
      .next ((s.setGrh r (widen (beValue (s.fetchOperand (s.addressRxy d x b) n)))).advance 6) := by
  rw [loadHigh, requireFacility_of_mem h45, withFetch, requirePresent_of_present hpresent]

/-- The first bytes of an operand in STORAGE are in STORAGE. -/
theorem State.present_operand_of_le {s : State} {a : Dword} {m n : Nat} (hmn : m ≤ n)
    (h : s.present (s.operand a n) = true) : s.present (s.operand a m) = true := by
  rw [s.operand_eq_take a hmn]
  exact List.all_eq_true.mpr fun x hx => List.all_eq_true.mp h x (List.mem_of_mem_take hx)

/-- A fetch at the address of the latest store answers its first bytes (20_memory R63, R73(1)). -/
theorem State.fetchOperand_storing (s : State) (a : Dword) {bytes : List Byte} {m : Nat}
    (hlength : bytes.length ≤ 2 ^ 24) (hm : m ≤ bytes.length) :
    (s.storing a bytes).fetchOperand a m = bytes.take m := by
  have hwritten : (s.operand a bytes.length).map (s.storing a bytes).view = bytes :=
    (s.stores_bufferStore a hlength).written
  calc (s.storing a bytes).fetchOperand a m
    _ = (s.operand a m).map (s.storing a bytes).view := State.fetchOperand_of_early_nil rfl a m
    _ = ((s.operand a bytes.length).map (s.storing a bytes).view).take m := by
      rw [s.operand_eq_take a hm, List.map_take]
    _ = bytes.take m := by rw [hwritten]

/-- A load of the first `m` of the four bytes just stored sees the leftmost bytes of the word stored. -/
theorem loadHigh_storing {s : State} {m k : Nat} (hmk : 32 = 8 * (m + k)) (v : Word) (widen : Nat → Word) (q : Reg)
    {d : Disp20} {x b : Reg} (h45 : 45 ∈ s.facilities)
    (hpresent : s.present (s.operand (s.addressRxy d x b) (m + k)) = true) :
    ∃ u, loadHigh m widen q d x b (s.storing (s.addressRxy d x b) (bytesOf (m + k) v)) = .next u ∧
      u.grh q = widen (v >>> (8 * k)).toNat := by
  have hvalue : beValue ((s.storing (s.addressRxy d x b) (bytesOf (m + k) v)).fetchOperand (s.addressRxy d x b) m) =
      (v >>> (8 * k)).toNat := by
    rw [State.fetchOperand_storing _ _ (by rw [length_bytesOf]; omega) (by simp), take_bytesOf,
      beValue_bytesOf_of_lt (toNat_ushiftRight_lt hmk v)]
  have hload := loadHigh_of_present (s := s.storing (s.addressRxy d x b) (bytesOf (m + k) v)) widen q h45
    (State.present_operand_of_le (Nat.le_add_right m k) hpresent)
  refine ⟨_, hload, ?_⟩
  rw [State.grh_advance, State.grh_setGrh]
  exact congrArg widen hvalue

/-- A word that fits in `n` bits is the same when it is cut to them and widened again. -/
theorem setWidth_ofNat_toNat {v : Word} {n : Nat} (h : v.toNat < 2 ^ n) :
    (BitVec.ofNat n v.toNat).setWidth 32 = v :=
  BitVec.eq_of_toNat_eq (by simpa [Nat.mod_eq_of_lt h] using v.isLt)

/-- Settles O23: each load fetches the first four, two or one of the bytes stored. -/
theorem loadSeesStore : Obligations.LoadSeesStore := by
  intro s r1 q x b d h45 hpresent htext
  refine ⟨_, storeHigh_of_present (s.grh r1) h45 hpresent htext, ?lfh, ?llhh, ?llch⟩
  case lfh =>
    obtain ⟨u, hload, hgrh⟩ := loadHigh_storing (m := 4) (k := 0) rfl (s.grh r1) (BitVec.ofNat 32) q h45 hpresent
    exact ⟨u, hload, by simpa using hgrh⟩
  case llhh =>
    obtain ⟨u, hload, hgrh⟩ := loadHigh_storing (m := 2) (k := 2) rfl (s.grh r1)
      (fun v => (BitVec.ofNat 16 v).setWidth 32) q h45 hpresent
    exact ⟨u, hload, hgrh.trans (setWidth_ofNat_toNat (toNat_ushiftRight_lt (m := 2) (k := 2) rfl _))⟩
  case llch =>
    obtain ⟨u, hload, hgrh⟩ := loadHigh_storing (m := 1) (k := 3) rfl (s.grh r1)
      (fun v => (BitVec.ofNat 8 v).setWidth 32) q h45 hpresent
    exact ⟨u, hload, hgrh.trans (setWidth_ofNat_toNat (toNat_ushiftRight_lt (m := 1) (k := 3) rfl _))⟩

/-! ## A piece becomes visible -/

/-- The bytes of a store are those of one piece and those of the other pieces. -/
theorem BufferedStore.flatten_perm {st : BufferedStore} {p : Nat} {cells : List Host.Cell}
    (h : st.units[p]? = some cells) : (cells ++ (st.units.eraseIdx p).flatten).Perm st.units.flatten := by
  obtain ⟨hp, rfl⟩ := List.getElem?_eq_some_iff.mp h
  exact (List.getElem_cons_eraseIdx_perm hp).flatten

/-- The bytes of a piece of a store that may become visible lie at different addresses. -/
theorem BufferedStore.SoundIn.nodup_piece {st : BufferedStore} {s : State} (h : st.SoundIn s) {p : Nat}
    {cells : List Host.Cell} (hcells : st.units[p]? = some cells) : (cells.map (·.1)).Nodup :=
  h.distinct.sublist ((List.sublist_flatten_of_mem (List.mem_of_getElem? hcells)).map _)

/-- The buffer's byte for an address, once the pieces `left` of its oldest store are still to become visible: a store
without pieces has none. -/
theorem bufferedByte_oldest (left : List (List Host.Cell)) (rest : List BufferedStore) (a : Nat) :
    bufferedByte (if left.isEmpty then rest else ⟨left⟩ :: rest) a =
      (bufferedByte rest a).or (left.flatten.lookup a) := by
  cases left with
  | nil => simp
  | cons u us => exact congrArg _ (BufferedStore.byte_eq_lookup ⟨u :: us⟩ a)

/-- The move can be made for each piece of the oldest store. -/
theorem State.exists_drainPiece {s : State} {p : Nat} {st : BufferedStore} {rest : List BufferedStore}
    {cells : List Host.Cell} (hbuffer : s.cpu.buffer = st :: rest) (hcells : st.units[p]? = some cells) :
    ∃ t, s.drainPiece p = some t := by
  simp [State.drainPiece, hbuffer, hcells]

/-- The CPU sees every byte as before: a byte of the piece is newer than storage and older than the stores behind it,
and no other piece of its store has its address (20_memory R73(1)). -/
theorem State.Sound.view_drainPiece {s t : State} {p : Nat} (hs : s.Sound) (h : s.drainPiece p = some t) (a : Nat) :
    t.view a = s.view a := by
  obtain ⟨st, rest, cells, hbuffer, hcells, rfl⟩ := State.drainPiece_some h
  have hst : st.SoundIn s := hs.cpu.buffer st (hbuffer ▸ List.mem_cons_self)
  have hperm : st.units.flatten.Perm ((st.units.eraseIdx p).flatten ++ cells) :=
    (BufferedStore.flatten_perm hcells).symm.trans List.perm_append_comm
  have hbyte : st.byte a = ((st.units.eraseIdx p).flatten.lookup a).or (cells.lookup a) := by
    rw [BufferedStore.byte_eq_lookup, lookup_eq_of_perm hst.distinct hperm, List.lookup_append]
  simp only [State.view, hbuffer, bufferedByte_oldest, Memory.read_writeCells hs.canonical (hst.nodup_piece hcells)]
  rw [bufferedByte, hbyte, ← Option.getD_or, Option.or_assoc]

/-- Settles O24: the move can be made, it writes the piece's cells, and the CPU sees what it saw. -/
theorem drainOnePiece : Obligations.DrainOnePiece := by
  intro s p moves st rest cells hs hmoves hbuffer hcells
  have hsound : State.Sound { s with schedule := moves } := (StepEffect.reschedule moves).sound hs
  obtain ⟨t, ht⟩ := State.exists_drainPiece (s := { s with schedule := moves }) hbuffer hcells
  have hstep : step s = .next t := by simp only [step, hmoves, perform, ht, orInadmissible]
  have hnodup : (cells.map (·.1)).Nodup :=
    (hs.cpu.buffer st (hbuffer ▸ List.mem_cons_self)).nodup_piece hcells
  refine ⟨t, hstep, ?_⟩
  have hview := hsound.view_drainPiece ht
  obtain ⟨st', rest', cells', hbuffer', hcells', rfl⟩ := State.drainPiece_some ht
  obtain ⟨rfl, rfl⟩ := List.cons.inj (hbuffer.symm.trans hbuffer')
  obtain rfl := Option.some.inj (hcells.symm.trans hcells')
  exact ⟨fun c hc => Memory.read_writeCells_mem cells hs.canonical hnodup hc,
    fun a ha => Memory.read_writeCells_other cells hs.canonical ha, hview, rfl, rfl, ⟨rfl, rfl, rfl, rfl, rfl, rfl⟩⟩

/-! ## Serialization -/

/-- BCR 14,0 serializes as BCR 15,0 does where facility bit 45 is one (48_miscellaneous R331). -/
theorem execBcr_14_0_of_mem {s : State} (h : 45 ∈ s.facilities) : execBcr_14_0 s = .next (s.drainAll.advance 2) :=
  if_pos (List.contains_iff_mem.mpr h)

/-- BCR 14,0 is no operation where facility bit 45 is zero (48_miscellaneous R331). -/
theorem execBcr_14_0_of_notMem {s : State} (h : 45 ∉ s.facilities) : execBcr_14_0 s = .next (s.advance 2) :=
  if_neg (by simpa using h)

/-- Settles O25: both instructions drain the buffer, and a drained buffer leaves in storage what the CPU saw. -/
theorem bcrSerializes : Obligations.BcrSerializes := by
  intro s hs
  constructor
  · intro i hi
    have hexec : exec i s = .next (s.drainAll.advance 2) := by
      rcases hi with rfl | ⟨rfl, h45⟩
      · rfl
      · exact execBcr_14_0_of_mem h45
    refine ⟨_, hexec, rfl, rfl, rfl, State.keeps_update_of_gr .., rfl, fun a => ⟨hs.read_drainAll a, ?_⟩⟩
    rw [State.view_of_buffer_nil rfl]
    exact hs.read_drainAll a
  · intro h45
    exact ⟨_, execBcr_14_0_of_notMem h45, rfl, rfl, rfl, State.keeps_update_of_gr .., ⟨rfl, rfl, fun _ => rfl⟩, trivial⟩

/-! ## Program text -/

/-- Storage holds what it held wherever a CPU's program text stands. -/
def State.KeepsText (s t : State) : Prop :=
  ∀ a, s.hasText a = true → Memory.read t.storage a = Memory.read s.storage a

/-- Where storage is the same, so is program text. -/
theorem State.KeepsText.of_storage_eq {s t : State} (h : t.storage = s.storage) : s.KeepsText t :=
  fun _ _ => congrArg (Memory.read · _) h

/-- Bytes written outside program text leave it. -/
theorem State.KeepsText.of_writeCells {s t : State} {cells : List Host.Cell} (hs : s.Sound)
    (hcells : ∀ c ∈ cells, s.hasText c.1 = false) (ht : t.storage = Memory.writeCells s.storage cells) :
    s.KeepsText t := fun a ha => by
  rw [ht]
  exact Memory.read_writeCells_other cells hs.canonical fun c hc heq =>
    Bool.false_ne_true ((hcells c hc).symm.trans (heq ▸ ha))

/-- Two changes, the first of which keeps the configuration. -/
theorem State.KeepsText.trans {s t u : State} (hst : s.KeepsText t) (hsame : s.SameConfiguration t)
    (htu : t.KeepsText u) : s.KeepsText u :=
  fun a ha => (htu a ((hsame.text a).trans ha)).trans (hst a ha)

/-- Making all stores of the active CPU visible writes all their bytes. -/
theorem State.drainAll_storage_eq (s : State) :
    s.drainAll.storage = Memory.writeCells s.storage (s.cpu.buffer.flatMap fun st => st.units.flatten) := by
  simp only [State.drainAll, Memory.writeCells, List.foldl_flatMap]
  exact List.foldl_ext _ _ _ fun m st _ => Memory.writeStore_eq_writeCells m st

/-- Nothing that waits in a sound state's buffer is for program text. -/
theorem State.Sound.keepsText_drainAll {s : State} (hs : s.Sound) : s.KeepsText s.drainAll := by
  refine .of_writeCells hs (fun c hc => ?_) s.drainAll_storage_eq
  obtain ⟨st, hst, hcell⟩ := List.mem_flatMap.mp hc
  exact ((hs.cpu.buffer st hst).safe c hcell).2

/-- Every shared operation keeps program text. -/
theorem Effect.keepsText {s t : State} (h : Effect s t) (hs : s.Sound) : s.KeepsText t := by
  induction h with
  | refl => exact .of_storage_eq rfl
  | setGr r v _ ih | setCc c _ ih | jump a _ _ _ ih | bufferStore a bs _ _ _ _ ih | draw _ ih
  | takeException e ia n _ ih => exact ih
  | drainAll ht ih => exact ih.trans ht.keeps.sameConfiguration (ht.sound hs).keepsText_drainAll
  | writeStorage a bs _ htext ht ih =>
    exact ih.trans ht.keeps.sameConfiguration
      (.of_writeCells (ht.sound hs) (fun _ hc => htext _ (List.of_mem_zip hc).1) rfl)

/-- Every move keeps program text. -/
theorem StepEffect.keepsText {s t : State} (h : StepEffect s t) (hs : s.Sound) : s.KeepsText t := by
  induction h with
  | reschedule moves => exact .of_storage_eq rfl
  | instruction ht heffect ih => exact ih.trans ht.sameConfiguration (heffect.keepsText (ht.sound hs))
  | finish _ ih | fetchEarly _ _ _ ih => exact ih
  | drainPiece p ht hdrain ih =>
    obtain ⟨st, rest, cells, hbuffer, hcells, rfl⟩ := State.drainPiece_some hdrain
    have hst := (ht.sound hs).cpu.buffer st (hbuffer ▸ List.mem_cons_self)
    exact ih.trans ht.sameConfiguration (.of_writeCells (ht.sound hs) (fun c hc =>
      (hst.safe c (List.mem_flatten.mpr ⟨cells, List.mem_of_getElem? hcells, hc⟩)).2) rfl)
  | switchTo k _ hswitch ih =>
    obtain ⟨-, rfl⟩ := State.switchTo_some hswitch
    exact ih
  | channelStore as bytes ht _ htext ih =>
    exact ih.trans ht.sameConfiguration
      (.of_writeCells (ht.sound hs) (fun _ hc => htext _ (List.of_mem_zip hc).1) rfl)

/-- Settles O13: every move keeps program text and where it stands, and a step is made of moves. -/
theorem programTextImmutable : Obligations.ProgramTextImmutable := by
  intro s t hs h a ha
  have heffect : StepEffect s t := step_effect h
  exact ⟨(heffect.sameConfiguration.text a).trans ha, heffect.keepsText hs a ha⟩

/-! ## Stores into program text -/

/-- The mask selects the condition code when its bit is one (43_load_store_on_condition R190). -/
theorem State.condition_iff_maskSelects (s : State) (m3 : Mask) :
    s.condition m3 = true ↔ maskSelects m3 s.cpu.psw.cc := by
  have hcc : s.cpu.psw.cc.toNat < 4 := s.cpu.psw.cc.isLt
  rw [State.condition, BitVec.getMsbD, BitVec.getLsbD, Nat.testBit_eq_decide_div_mod_eq, maskSelects]
  simp [hcc]

section
variable {s : State} {n : Nat} {a : Dword}

/-- An operand that is in STORAGE and overlaps program text stops every kind of store. -/
theorem requirePresent_overlap (hpresent : s.present (s.operand a n) = true)
    (htext : ∃ x ∈ s.operand a n, s.hasText x = true) (il : Nat) (k : Result) :
    requirePresent (s.operand a n) il s (requireNoText (s.operand a n) s k) = .refused .storeIntoProgramText := by
  rw [requirePresent_of_present hpresent, requireNoText_of_exists htext]

theorem storeHigh_overlap {w : Nat} (v : BitVec w) {d : Disp20} {x b : Reg} (h45 : 45 ∈ s.facilities)
    (hpresent : s.present (s.operand (s.addressRxy d x b) n) = true)
    (htext : ∃ y ∈ s.operand (s.addressRxy d x b) n, s.hasText y = true) :
    storeHigh n v d x b s = .refused .storeIntoProgramText := by
  rw [storeHigh, requireFacility_of_mem h45, withStore, requirePresent_overlap hpresent htext]

theorem addToStorage_overlap {w : Nat} (f : BitVec w → BitVec w → Arith w) (i : BitVec w) {d : Disp20} {b : Reg}
    (hpresent : s.present (s.operand (s.addressRsy d b) n) = true)
    (htext : ∃ x ∈ s.operand (s.addressRsy d b) n, s.hasText x = true) :
    addToStorage n f i d b s = .refused .storeIntoProgramText := by
  simp only [addToStorage, withInterlocked, withUpdate, requirePresent_overlap hpresent htext, ite_self]

theorem storeOnCondition_overlap {w : Nat} (v : BitVec w) {d : Disp20} {b : Reg} {m3 : Mask} (h45 : 45 ∈ s.facilities)
    (hmask : maskSelects m3 s.cpu.psw.cc) (hpresent : s.present (s.operand (s.addressRsy d b) n) = true)
    (htext : ∃ x ∈ s.operand (s.addressRsy d b) n, s.hasText x = true) :
    storeOnCondition n v d b m3 s = .refused .storeIntoProgramText := by
  rw [storeOnCondition, requireFacility_of_mem h45, if_pos ((s.condition_iff_maskSelects m3).mpr hmask), withStore,
    requirePresent_overlap hpresent htext]

theorem loadAndUpdate32_overlap (f : Word → Word → Arith 32) (r1 r3 : Reg) {d : Disp20} {b : Reg}
    (h45 : 45 ∈ s.facilities) (haligned : (s.addressRsy d b).toNat % 4 = 0)
    (hpresent : s.present (s.operand (s.addressRsy d b) 4) = true)
    (htext : ∃ x ∈ s.operand (s.addressRsy d b) 4, s.hasText x = true) :
    loadAndUpdate32 f r1 r3 d b s = .refused .storeIntoProgramText := by
  rw [loadAndUpdate32, requireFacility_of_mem h45, requireDesignation_of_ok (aligned_iff.mpr haligned), withInterlocked,
    requirePresent_overlap hpresent htext]

theorem loadAndUpdate64_overlap (f : Dword → Dword → Arith 64) (r1 r3 : Reg) {d : Disp20} {b : Reg}
    (h45 : 45 ∈ s.facilities) (haligned : (s.addressRsy d b).toNat % 8 = 0)
    (hpresent : s.present (s.operand (s.addressRsy d b) 8) = true)
    (htext : ∃ x ∈ s.operand (s.addressRsy d b) 8, s.hasText x = true) :
    loadAndUpdate64 f r1 r3 d b s = .refused .storeIntoProgramText := by
  rw [loadAndUpdate64, requireFacility_of_mem h45, requireDesignation_of_ok (aligned_iff.mpr haligned), withInterlocked,
    requirePresent_overlap hpresent htext]

end

/-- Settles O32: each storing family makes the check, after the checks that its hypotheses let through. -/
theorem storeIntoTextRefused : Obligations.StoreIntoTextRefused := by
  intro s r1 r3 x2 b2 d2 m3 i2 h45 refused a c
  refine ⟨?stch, ?sthh, ?stfh, ?add32, ?add64, fun hmask => ⟨?stoc, ?stocg⟩, fun h4 => ?update32,
    fun h8 => ?update64⟩ <;> intro hpresent htext i hi
  case stch | sthh | stfh =>
    obtain rfl := List.mem_singleton.mp hi
    exact storeHigh_overlap _ h45 hpresent htext
  case add32 | add64 =>
    simp only [List.mem_cons, List.not_mem_nil, or_false] at hi
    rcases hi with rfl | rfl <;> exact addToStorage_overlap _ _ hpresent htext
  case stoc | stocg =>
    obtain rfl := List.mem_singleton.mp hi
    exact storeOnCondition_overlap _ h45 hmask hpresent htext
  case update32 =>
    simp only [List.mem_cons, List.not_mem_nil, or_false] at hi
    rcases hi with rfl | rfl | rfl | rfl | rfl <;> exact loadAndUpdate32_overlap _ _ _ h45 h4 hpresent htext
  case update64 =>
    simp only [List.mem_cons, List.not_mem_nil, or_false] at hi
    rcases hi with rfl | rfl | rfl | rfl | rfl <;> exact loadAndUpdate64_overlap _ _ _ h45 h8 hpresent htext

end Sys2Proof.Machine
end

section
/-! PROOFS. The encoding (30_encoding): the length of an instruction, that the decoder undoes the encoder, and that it
does not examine unused fields. -/

namespace Sys2Proof

/-- Settles O1: the encoder writes the text of the instruction, and the decoder reads the text of an instruction. -/
theorem decodeEncode : Obligations.DecodeEncode := fun i => decode_encode i

/-! ## Length -/

/-- Settles O2: bit 0 of a byte weighs 128 and bit 1 weighs 64. -/
theorem instructionLength_eq : Obligations.InstructionLength := by
  intro b
  have hlt : b.toNat < 256 := b.isLt
  have hbit0 : b.getMsbD 0 = decide (b.toNat / 128 % 2 = 1) := Nat.testBit_eq_decide_div_mod_eq
  have hbit1 : b.getMsbD 1 = decide (b.toNat / 64 % 2 = 1) := Nat.testBit_eq_decide_div_mod_eq
  simp only [instructionLength, hbit0, hbit1, decide_eq_true_eq, decide_eq_false_iff_not]
  split_ifs <;> omega

/-! ## Words -/

/-- Settles O3: the decoder, run on each word. -/
theorem decodedWords : Obligations.DecodedWords := ⟨rfl, rfl, rfl, rfl, rfl, rfl, rfl, rfl, rfl⟩

/-! ## Unused fields (30_encoding R115) -/

/-- The first four bits of a byte do not depend on the others. -/
theorem field_and_high (u : Byte) : field (u &&& 0xF0#8) 0 4 = field u 0 4 := by
  revert u; decide

/-- The register in the first four bits of a byte does not depend on the others. -/
theorem regAt_and_high (u : Byte) : regAt (u &&& 0xF0#8) 0 = regAt u 0 := congrArg BitVec.toFin (field_and_high u)

section
variable (x : BitVec 16) (u a : Byte)

/-- R1 of RRE and RRF stands in the last byte. -/
theorem regAt_24_append : regAt (x ++ u ++ a) 24 = regAt a 0 := congrArg BitVec.toFin (slice_low _ a 4 4 (by decide))

/-- R2 of RRE and RRF stands in the last byte. -/
theorem regAt_28_append : regAt (x ++ u ++ a) 28 = regAt a 4 := congrArg BitVec.toFin (slice_low _ a 0 4 (by decide))

/-- M3 of RRF stands in the first four bits of the byte behind the operation code. -/
theorem field_16_append : field (x ++ u ++ a) 16 4 = field u 0 4 :=
  (slice_high _ a 12 4 (by decide)).trans (slice_low x u 4 4 (by decide))

/-- R3 of RRF stands where M3 does. -/
theorem regAt_16_append : regAt (x ++ u ++ a) 16 = regAt u 0 := congrArg BitVec.toFin (field_16_append x u a)

end

/-- What RIE with a 16-bit immediate reads: R1 and R3 in the second byte, I2 in the next two. -/
theorem rieD_append (f : Reg → Reg → Half → Instr) (x a b c u y : Byte) :
    rieD f (x ++ a ++ b ++ c ++ u ++ y) = f (regAt a 0) (regAt a 4) (b ++ c) := by
  have hbefore (k w : Nat) :
      (x ++ a ++ b ++ c ++ u ++ y).extractLsb' (k + 8 + 8) w = (x ++ a ++ b ++ c).extractLsb' k w :=
    (slice_high _ y _ w (by omega)).trans (slice_high _ u _ w (by omega))
  have hsecond (k w : Nat) (h : k + w ≤ 8) : (x ++ a ++ b ++ c).extractLsb' (k + 8 + 8) w = a.extractLsb' k w :=
    ((slice_high _ c _ w (by omega)).trans (slice_high _ b _ w (by omega))).trans (slice_low x a k w h)
  have hr1 : regAt (x ++ a ++ b ++ c ++ u ++ y) 8 = regAt a 0 :=
    congrArg BitVec.toFin ((hbefore 20 4).trans (hsecond 4 4 (by decide)))
  have hr3 : regAt (x ++ a ++ b ++ c ++ u ++ y) 12 = regAt a 4 :=
    congrArg BitVec.toFin ((hbefore 16 4).trans (hsecond 0 4 (by decide)))
  have hb : (x ++ a ++ b ++ c).extractLsb' 8 8 = b :=
    (slice_high _ c 8 8 (by decide)).trans ((slice_low _ b 0 8 (by decide)).trans (slice_all b))
  have hc : (x ++ a ++ b ++ c).extractLsb' 0 8 = c := (slice_low _ c 0 8 (by decide)).trans (slice_all c)
  have hi2 : field (x ++ a ++ b ++ c ++ u ++ y) 16 16 = b ++ c :=
    (hbefore 0 16).trans ((slice_join _ 0 8 8).symm.trans (congr (congrArg HAppend.hAppend hb) hc))
  rw [rieD, hr1, hr3, hi2]

/-- The decoder on four bytes whose first two have a row. -/
theorem decode_of_row32 {b c u a : Byte} {build : BitVec 32 → Instr} (hlength : instructionLength b = 4)
    (hrow : lookup (b ++ c).toNat rows32 = some build) : decode [b, c, u, a] = .ok (build (b ++ c ++ u ++ a)) := by
  have hcode : field (b ++ c ++ u ++ a) 0 16 = b ++ c :=
    ((slice_high _ a 16 16 (by decide)).trans (slice_high _ u 8 16 (by decide))).trans (slice_all _)
  refine IsTextOf.decode ⟨⟨b, _, rfl, hlength.symm⟩, ?_⟩
  rw [decodeWhole, decode32, hcode, hrow]
  rfl

/-- The decoder on six bytes whose first and last have a row. -/
theorem decode_of_row16 {x a b c u y : Byte} {build : BitVec 48 → Instr} (hlength : instructionLength x = 6)
    (hno : ∀ z : BitVec 4, lookup (x ++ z).toNat rows12 = none) (hrow : lookup (x ++ y).toNat rows16 = some build) :
    decode [x, a, b, c, u, y] = .ok (build (x ++ a ++ b ++ c ++ u ++ y)) := by
  have hfirst : field (x ++ a ++ b ++ c ++ u ++ y) 0 8 = x :=
    (slice_high _ y 40 8 (by decide)).trans <| (slice_high _ u 32 8 (by decide)).trans <|
      (slice_high _ c 24 8 (by decide)).trans <| (slice_high _ b 16 8 (by decide)).trans <|
      (slice_high _ a 8 8 (by decide)).trans (slice_all x)
  have hlast : field (x ++ a ++ b ++ c ++ u ++ y) 40 8 = y := (slice_low _ y 0 8 (by decide)).trans (slice_all y)
  refine IsTextOf.decode ⟨⟨x, _, rfl, hlength.symm⟩, ?_⟩
  rw [decodeWhole, decode48, hfirst, hno, hlast, hrow]
  rfl

section
variable {op : Byte} (u a : Byte)

/-- The decoder on an RRE instruction: bits 16-23 are not examined. -/
theorem decode_rre {f : Reg → Reg → Instr} (hrow : lookup (0xB9#8 ++ op).toNat rows32 = some (rre f)) :
    decode [0xB9#8, op, u, a] = .ok (f (regAt a 0) (regAt a 4)) := by
  rw [decode_of_row32 rfl hrow, rre, regAt_24_append, regAt_28_append]

/-- The decoder on an RRF instruction with a third register: bits 20-23 are not examined. -/
theorem decode_rrfA {f : Reg → Reg → Reg → Instr} (hrow : lookup (0xB9#8 ++ op).toNat rows32 = some (rrfA f)) :
    decode [0xB9#8, op, u, a] = .ok (f (regAt a 0) (regAt a 4) (regAt u 0)) := by
  rw [decode_of_row32 rfl hrow, rrfA, regAt_24_append, regAt_28_append, regAt_16_append]

/-- The decoder on an RRF instruction with a mask: bits 20-23 are not examined. -/
theorem decode_rrfC {f : Reg → Reg → Mask → Instr} (hrow : lookup (0xB9#8 ++ op).toNat rows32 = some (rrfC f)) :
    decode [0xB9#8, op, u, a] = .ok (f (regAt a 0) (regAt a 4) (field u 0 4)) := by
  rw [decode_of_row32 rfl hrow, rrfC, regAt_24_append, regAt_28_append, field_16_append]

/-- The decoder on a RIE instruction with a 16-bit immediate: bits 32-39 are not examined. -/
theorem decode_rieD (b c : Byte) {f : Reg → Reg → Half → Instr}
    (hrow : lookup (0xEC#8 ++ op).toNat rows16 = some (rieD f)) :
    decode [0xEC#8, a, b, c, u, op] = .ok (f (regAt a 0) (regAt a 4) (b ++ c)) := by
  rw [decode_of_row16 rfl (lookup_rows12_eq_none (by decide)) hrow, rieD_append]

end

/-- Settles O4: each operation code has a row of its format, which reads the instruction without the unused fields. -/
theorem unusedFieldsIgnored : Obligations.UnusedFieldsIgnored := by
  intro a b c u
  refine ⟨fun op hop => ?rre, fun op hop => ?rrf, fun op hop => ?rieD⟩ <;>
    simp only [List.mem_cons, List.not_mem_nil, or_false] at hop
  case rre =>
    rcases hop with rfl | rfl | rfl | rfl | rfl | rfl | rfl | rfl | rfl <;>
      rw [decode_rre u a rfl, decode_rre 0#8 a rfl]
  case rrf =>
    rcases hop with rfl | rfl | rfl | rfl | rfl | rfl | rfl | rfl | rfl | rfl | rfl | rfl | rfl | rfl | rfl | rfl | rfl
      | rfl | rfl | rfl | rfl | rfl | rfl | rfl | rfl
    -- LOCR and LOCGR have a mask, the others a third register.
    on_goal 10 => rw [decode_rrfC u a rfl, decode_rrfC _ a rfl, field_and_high]
    on_goal 9 => rw [decode_rrfC u a rfl, decode_rrfC _ a rfl, field_and_high]
    all_goals rw [decode_rrfA u a rfl, decode_rrfA _ a rfl, regAt_and_high]
  case rieD =>
    rcases hop with rfl | rfl | rfl | rfl <;> rw [decode_rieD u a b c rfl, decode_rieD 0#8 a b c rfl]

end Sys2Proof
end

section
/-! PROOFS. Addresses (30_encoding): wrapping, address generation, and that high words do not enter an address
of the 24- and 31-bit modes. -/

namespace Sys2Proof.Machine

/-! ## Wrapping (30_encoding R108) -/

/-- The size of the mode's address space divides that of the 64-bit mode's. -/
theorem AMode.two_pow_bits_dvd (m : AMode) : (2 ^ m.bits : Int) ∣ 2 ^ 64 := by cases m <;> decide

/-- An integer taken as an address and wrapped is that integer, reduced by the addressing mode. -/
theorem AMode.toNat_wrap_ofInt (m : AMode) (z : Int) :
    ((m.wrap (BitVec.ofInt 64 z)).toNat : Int) = z % 2 ^ m.bits := by
  calc ((m.wrap (BitVec.ofInt 64 z)).toNat : Int)
    _ = ((BitVec.ofInt 64 z).toNat : Int) % 2 ^ m.bits := by rw [AMode.toNat_wrap]; push_cast; rfl
    _ = z % 2 ^ 64 % 2 ^ m.bits := by
      rw [BitVec.toNat_ofInt, Int.toNat_of_nonneg (Int.emod_nonneg z (by decide))]
      rfl
    _ = z % 2 ^ m.bits := Int.emod_emod_of_dvd z m.two_pow_bits_dvd

/-- A branch target is the exact sum of pc and twice the immediate, as an address. -/
theorem State.branchTarget_eq (s : State) (i : Word) :
    s.branchTarget i = s.cpu.psw.amode.wrap (BitVec.ofInt 64 (s.cpu.psw.pc.toNat + 2 * i.toInt)) := by
  rw [State.branchTarget, BitVec.ofInt_add, BitVec.ofInt_mul, BitVec.ofInt_natCast, BitVec.ofNat_toNat,
    BitVec.setWidth_eq]
  rfl

/-- Settles O19: each address is the wrapping of its exact sum, and wrapping reduces an exact sum. -/
theorem addressesWrap : Obligations.AddressesWrap := by
  intro s a n i
  refine ⟨AMode.toNat_wrap .., ?_, AMode.toNat_wrap_add .., ?_⟩
  · simp only [State.operand, operandAddresses, AMode.toNat_wrap_add]
  · rw [State.branchTarget_eq, AMode.toNat_wrap_ofInt]

/-! ## Address generation (30_encoding R104 to R107) -/

/-- What a base or index field contributes to an address: a field of zero designates no register. -/
def State.part (s : State) (r : Reg) : Int := if r = 0 then 0 else ((s.gr r).toNat : Int)

/-- The component of a field is its contribution, as an address. -/
theorem State.component_eq (s : State) (r : Reg) : s.component r = BitVec.ofInt 64 (s.part r) := by
  unfold State.component State.part
  split
  · rfl
  · rw [BitVec.ofInt_natCast, BitVec.ofNat_toNat, BitVec.setWidth_eq]

/-- An unsigned displacement is its value, as an address. -/
theorem setWidth_eq_ofInt (e : Disp12) : e.setWidth 64 = BitVec.ofInt 64 e.toNat := by
  rw [BitVec.ofInt_natCast, BitVec.ofNat_toNat]

theorem State.toNat_addressRxy (s : State) (d : Disp20) (x b : Reg) :
    ((s.addressRxy d x b).toNat : Int) = (s.part x + s.part b + d.toInt) % 2 ^ s.cpu.psw.amode.bits := by
  rw [← AMode.toNat_wrap_ofInt, BitVec.ofInt_add, BitVec.ofInt_add, ← s.component_eq, ← s.component_eq]
  rfl

theorem State.toNat_addressRsy (s : State) (d : Disp20) (b : Reg) :
    ((s.addressRsy d b).toNat : Int) = (s.part b + d.toInt) % 2 ^ s.cpu.psw.amode.bits := by
  rw [← AMode.toNat_wrap_ofInt, BitVec.ofInt_add, ← s.component_eq]
  rfl

theorem State.toNat_addressSsf (s : State) (e : Disp12) (b : Reg) :
    ((s.addressSsf e b).toNat : Int) = (s.part b + e.toNat) % 2 ^ s.cpu.psw.amode.bits := by
  rw [← AMode.toNat_wrap_ofInt, BitVec.ofInt_add, ← s.component_eq, ← setWidth_eq_ofInt]
  rfl

/-- The rightmost six bits of an address do not depend on the addressing mode (44_distinct_operands R223). -/
theorem State.shiftAmount_eq (s : State) (d : Disp20) (b : Reg) :
    (s.shiftAmount d b : Int) = (s.part b + d.toInt) % 64 := by
  have hdvd : (64 : Int) ∣ 2 ^ s.cpu.psw.amode.bits := by cases s.cpu.psw.amode <;> decide
  calc (s.shiftAmount d b : Int)
    _ = (s.addressRsy d b).toNat % 64 := Int.natCast_emod ..
    _ = (s.part b + d.toInt) % 64 := by rw [s.toNat_addressRsy, Int.emod_emod_of_dvd _ hdvd]

/-- Settles O20: every address is the wrapping of its exact sum. -/
theorem addressGeneration : Obligations.AddressGeneration := fun s x b d e =>
  ⟨s.toNat_addressRxy d x b, s.toNat_addressRsy d b, s.toNat_addressSsf e b, s.shiftAmount_eq d b⟩

/-! ## High words (30_encoding R105) -/

/-- The value of a low word. -/
theorem toNat_lowWord (a : Dword) : (lowWord a).toNat = a.toNat % 2 ^ 32 := BitVec.extractLsb'_toNat 0 32 a

/-- The low word of a sum is the sum of the low words. -/
theorem lowWord_add (a b : Dword) : lowWord (a + b) = lowWord a + lowWord b := by
  apply BitVec.eq_of_toNat_eq
  rw [BitVec.toNat_add, toNat_lowWord, toNat_lowWord, toNat_lowWord, BitVec.toNat_add]
  omega

/-- The 24- and 31-bit modes have addresses of a word. -/
theorem AMode.bits_le {m : AMode} (hm : m ≠ .mode64) : m.bits ≤ 32 := by
  cases m with
  | mode24 | mode31 => decide
  | mode64 => exact absurd rfl hm

/-- In the 24- and 31-bit modes an address is determined by its low word. -/
theorem AMode.wrap_congr {m : AMode} (hm : m ≠ .mode64) {a b : Dword} (h : lowWord a = lowWord b) :
    m.wrap a = m.wrap b := by
  have hlow : a.toNat % 2 ^ 32 = b.toNat % 2 ^ 32 := by rw [← toNat_lowWord, h, toNat_lowWord]
  have hdvd : 2 ^ m.bits ∣ 2 ^ 32 := Nat.pow_dvd_pow 2 (AMode.bits_le hm)
  apply BitVec.eq_of_toNat_eq
  rw [AMode.toNat_wrap, AMode.toNat_wrap, ← Nat.mod_mod_of_dvd a.toNat hdvd, hlow, Nat.mod_mod_of_dvd _ hdvd]

/-- Writing a high word leaves the low word of every register. -/
theorem State.grl_setGrh_eq (s : State) (r q : Reg) (v : Word) : (s.setGrh r v).grl q = s.grl q := by
  by_cases h : q = r
  · rw [h, State.grl_setGrh]
  · rw [State.grl, State.gr_setGrh_other s v h, State.grl]

/-- Writing a high word leaves the low word of every component. -/
theorem State.lowWord_component_setGrh (s : State) (r q : Reg) (v : Word) :
    lowWord ((s.setGrh r v).component q) = lowWord (s.component q) := by
  unfold State.component
  split
  · rfl
  · exact s.grl_setGrh_eq r q v

/-- Settles O21: the sums have the same low words. -/
theorem highWordsOutsideAddresses : Obligations.HighWordsOutsideAddresses := by
  intro s r x b v d e hm
  refine ⟨AMode.wrap_congr hm ?_, AMode.wrap_congr hm ?_, AMode.wrap_congr hm ?_⟩ <;>
    simp only [lowWord_add, State.lowWord_component_setGrh]

end Sys2Proof.Machine
end

section
/-! PROOFS. Program text (30_encoding): operation codes without a row, and what well-formed text promises. -/

namespace Sys2Proof

/-! ## The no-operation without a row (48_miscellaneous R332) -/

/-- The no-operation is BCR with a zero R2 and a mask of 0 to 13. -/
theorem isBcrNoOperation_iff {bs : List Byte} :
    isBcrNoOperation bs = true ↔ ∃ m : BitVec 4, m.toNat ≤ 13 ∧ bs = [0x07#8, m ++ 0#4] := by
  constructor
  · intro h
    unfold isBcrNoOperation at h
    split at h
    · rename_i b0 b1
      simp only [Bool.and_eq_true, beq_iff_eq, decide_eq_true_eq] at h
      obtain ⟨⟨rfl, hr2⟩, hmask⟩ := h
      have hfields : field b1 0 4 ++ field b1 4 4 = b1 := (slice_join b1 0 4 4).trans (slice_all b1)
      exact ⟨field b1 0 4, Nat.le_of_lt_succ hmask, by rw [← hr2, hfields]⟩
    · cases h
  · rintro ⟨m, hm, rfl⟩
    revert m; decide

/-! ## Well-formed text (30_encoding R127) -/

/-- Well-formed text decodes to a well-formed instruction whose text it is. -/
theorem wellFormedText_decode {bs : List Byte} (h : wellFormedText bs = true) :
    ∃ i : Instr, decode bs = .ok i ∧ i.wellFormed = true ∧ encode i = bs := by
  unfold wellFormedText at h
  split at h
  · rename_i i hdecode
    rw [Bool.and_eq_true, beq_iff_eq] at h
    exact ⟨i, hdecode, h⟩
  · cases h

/-- Well-formed text is what the encoder writes for a well-formed instruction. -/
theorem wellFormedText_iff {bs : List Byte} :
    wellFormedText bs = true ↔ ∃ i : Instr, i.wellFormed = true ∧ encode i = bs := by
  constructor
  · intro h
    obtain ⟨i, -, hi⟩ := wellFormedText_decode h
    exact ⟨i, hi⟩
  · rintro ⟨i, hwell, rfl⟩
    simp [wellFormedText, decode_encode, hwell]

end Sys2Proof

namespace Sys2Proof.Machine

/-! ## Operation codes without a row (30_encoding R117) -/

/-- Bytes without a row, away from the end addresses: the no-operation, or a refusal. -/
theorem runActive_of_decode_error {s : State} {bs : List Byte} {why : Rejection}
    (hend : s.cpu.psw.pc ∉ s.cpu.endAddresses) (hfetch : s.fetchInstruction = .ok bs)
    (hdecode : decode bs = .error why) :
    runActive s = if isBcrNoOperation bs then bcrNoOperation s else .refused .unknownOperationCode := by
  simp only [runActive, List.contains_iff_mem, if_neg hend, hfetch, hdecode]

/-- The no-operation advances pc by two bytes and does nothing else. -/
theorem bcrNoOperation_keeps (s : State) : ∃ t, bcrNoOperation s = .next t ∧ t.cpu.psw.pc = s.nextPc 2 ∧
    t.cpu.psw.cc = s.cpu.psw.cc ∧ t.cpu.status = s.cpu.status ∧ s.Keeps t [] ∧ s.KeepsStorage t :=
  ⟨s.advance 2, rfl, rfl, rfl, rfl, State.keeps_update_of_gr .., rfl, rfl, fun _ => rfl⟩

/-- Settles O10: what runs depends on whether the bytes are the no-operation's, and that is told by its form. -/
theorem unknownCodes : Obligations.UnknownCodes := by
  refine ⟨fun s bs why hop hend hfetch hdecode => ?_, bcrNoOperation_keeps⟩
  have hrun (moves : List Move) := runActive_of_decode_error (s := { s with schedule := moves }) hend hfetch hdecode
  constructor
  · intro m hm hbs
    have hno : isBcrNoOperation bs = true := isBcrNoOperation_iff.mpr ⟨m, hm, hbs⟩
    exact State.stepIs_of_runActive hop fun moves => (hrun moves).trans (if_pos hno)
  · intro hbs
    have hno : ¬ isBcrNoOperation bs = true := fun h => by
      obtain ⟨m, hm, heq⟩ := isBcrNoOperation_iff.mp h
      exact hbs m hm heq
    exact State.stepIs_of_runActive hop fun moves => (hrun moves).trans (if_neg hno)

/-! ## What is refused -/

/-- A well-formed instruction runs in every state. -/
theorem exec_runs_of_wellFormed {i : Instr} (h : i.wellFormed = true) (s : State) : Result.Runs (exec i s) := by
  rcases exec_runs i with hruns | ⟨hnot, -⟩
  · exact hruns s
  · exact absurd (h.symm.trans hnot) (by decide)

/-- An instruction that is refused, but for a store into program text, is refused in every state. -/
theorem exec_refused {i : Instr} {s : State} {r : Refusal} (h : exec i s = .refused r)
    (hr : r ≠ .storeIntoProgramText) (t : State) : exec i t = .refused r := by
  rcases exec_runs i with hruns | ⟨-, r', hrefused⟩
  · rcases hruns s with ⟨u, hnext⟩ | htext
    · cases h.symm.trans hnext
    · cases h.symm.trans htext
      exact absurd rfl hr
  · rw [hrefused t, ← hrefused s, h]

/-- The active CPU at well-formed text runs. -/
theorem runActive_runs_of_wellFormedHere {s : State} (hend : s.cpu.psw.pc ∉ s.cpu.endAddresses)
    (h : s.wellFormedHere) :
    Result.Runs (runActive s) := by
  obtain ⟨bs, hfetch, htext⟩ := h
  obtain ⟨i, hdecode, hwell, -⟩ := wellFormedText_decode htext
  rw [runActive_of_decode hend hfetch hdecode]
  exact exec_runs_of_wellFormed hwell s

/-- An active CPU that is refused its instruction, but for a store into program text, stands at no end address, and is
refused it whatever moves are still to come. -/
theorem runActive_refused {s : State} {r : Refusal} (h : runActive s = .refused r) (hr : r ≠ .storeIntoProgramText) :
    s.cpu.psw.pc ∉ s.cpu.endAddresses ∧ ∀ moves, runActive { s with schedule := moves } = .refused r := by
  by_cases hend : s.cpu.psw.pc ∈ s.cpu.endAddresses
  · simp [runActive, hend] at h
  refine ⟨hend, fun moves => ?_⟩
  cases hfetch : s.fetchInstruction with
  | error e => cases (runActive_of_fetch_error hend hfetch).symm.trans h
  | ok bs =>
    cases hdecode : decode bs with
    | ok i =>
      rw [runActive_of_decode hend hfetch hdecode] at h
      exact (runActive_of_decode (s := { s with schedule := moves }) hend hfetch hdecode).trans (exec_refused h hr _)
    | error why =>
      rw [runActive_of_decode_error hend hfetch hdecode] at h
      rw [runActive_of_decode_error (s := { s with schedule := moves }) hend hfetch hdecode]
      split at h
      · cases h
      · rename_i hno
        rw [if_neg hno, h]

/-- Draining and switching are refused only where they cannot be done. -/
theorem orInadmissible_refused {o : Option State} {r : Refusal} (h : orInadmissible o = .refused r) :
    r = .inadmissibleMove := by
  cases o <;> cases h
  rfl

/-- The channel subsystem is refused a move that it cannot make, and a store into program text. -/
theorem channelStore_refused {a : Nat} {bytes : List Byte} {s : State} {r : Refusal}
    (h : channelStore a bytes s = .refused r) : r = .inadmissibleMove ∨ r = .storeIntoProgramText := by
  simp only [channelStore] at h
  split at h
  · cases h; exact .inl rfl
  · split at h
    · unfold requireNoText at h
      split at h <;> cases h
      exact .inr rfl
    · cases h; exact .inl rfl

/-- A move is refused when no agent can make it, when it would store into program text, or when the active CPU is
refused its instruction. -/
theorem perform_refused {m : Move} {s : State} {r : Refusal} (h : perform m s = .refused r)
    (htext : r ≠ .storeIntoProgramText) (hmove : r ≠ .inadmissibleMove) :
    s.cpu.status = .operating ∧ runActive s = .refused r := by
  cases m with
  | execute =>
    simp only [perform] at h
    split at h
    · rename_i hop
      exact ⟨by simpa [Cpu.isOperating] using hop, h⟩
    · cases h
      exact absurd rfl hmove
  | drain p => exact absurd (orInadmissible_refused h) hmove
  | fetchEarly a n =>
    simp only [perform] at h
    split at h <;> cases h
    exact absurd rfl hmove
  | switchTo k => exact absurd (orInadmissible_refused h) hmove
  | channelStore a bytes =>
    rcases channelStore_refused h with hr | hr
    · exact absurd hr hmove
    · exact absurd hr htext

/-- Draining keeps a refusal. -/
theorem Result.drained_refused {r : Result} {x : Refusal} (h : r.drained = .refused x) : r = .refused x := by
  cases r with
  | next | fault => cases h
  | refused => exact h

/-- A step is refused, but for a store into program text and a move that no agent can make, where the active CPU would
execute an instruction that is refused. -/
theorem step_refused {s : State} {r : Refusal} (h : step s = .refused r) (htext : r ≠ .storeIntoProgramText)
    (hmove : r ≠ .inadmissibleMove) : s.executes ∧ runActive s = .refused r := by
  have hactive : s.cpu.status = .operating ∧ ∃ moves, runActive { s with schedule := moves } = .refused r := by
    unfold step at h
    split at h
    · unfold runUnscheduled at h
      split at h
      · rename_i hop
        exact ⟨by simpa [Cpu.isOperating] using hop, s.schedule, Result.drained_refused h⟩
      · split at h
        · exact absurd (orInadmissible_refused h) hmove
        · cases h
    · obtain ⟨hop, hrun⟩ := perform_refused h htext hmove
      exact ⟨hop, _, hrun⟩
  obtain ⟨hop, moves, hrun⟩ := hactive
  obtain ⟨hend, hall⟩ := runActive_refused hrun htext
  exact ⟨⟨hop, hend⟩, hall s.schedule⟩

/-- Settles O60: the encoder writes what the decoder reads, a well-formed instruction runs in every state, and where a
step is refused there is neither well-formed text nor an exception. -/
theorem wellFormedProgramText : Obligations.WellFormedProgramText := by
  refine ⟨fun bs => wellFormedText_iff, fun s hempty hexec hwell => ?_,
    fun s t moves r hreach hstep htext hmove => ?_⟩
  · rw [(State.stepIs_of_runActive hexec.1 fun _ => rfl).1 hempty]
    rcases runActive_runs_of_wellFormedHere hexec.2 hwell with ⟨t, ht⟩ | htext
    · exact .inl ⟨t.drainAll, by rw [ht]; rfl⟩
    · exact .inr (by rw [htext]; rfl)
  · obtain ⟨hexec, hrefused⟩ := step_refused hstep htext hmove
    have hnotText : ¬ t.wellFormedHere := fun hwell => by
      rcases runActive_runs_of_wellFormedHere hexec.2 hwell with ⟨u, hnext⟩ | hstore
      · cases hrefused.symm.trans hnext
      · cases hrefused.symm.trans hstore
        exact htext rfl
    have hnotException : ¬ t.exceptionHere := fun ⟨u, _, hnext, _⟩ => by cases hrefused.symm.trans hnext
    exact ⟨fun hprogram => hnotText (hprogram moves t hreach hexec),
      fun hadmissible => (hadmissible moves t hreach hexec).elim hnotText hnotException⟩

end Sys2Proof.Machine
end

section
/-! PROOFS. Results and condition codes (10_state R29 to R33): each result of the model is the exact one, reduced, with
the condition code the exact values give. -/

namespace Sys2Proof.Machine

variable {w : Nat}

/-- Results with equal fields are equal. -/
@[ext] theorem Arith.ext {a b : Arith w} (hvalue : a.value = b.value) (hcc : a.cc = b.cc)
    (hoverflow : a.overflow = b.overflow) : a = b := by
  cases a
  cases b
  rw [Arith.mk.injEq]
  exact ⟨hvalue, hcc, hoverflow⟩

/-! ## Signed results (10_state R29, R30) -/

/-- The result of a signed operation whose exact value is `x`: `x` truncated, its code, and an overflow when it is
outside the range of `w` bits. -/
def exactArith (w : Nat) (x : Int) : Arith w :=
  { value := BitVec.ofInt w x, cc := exactCode w x, overflow := decide (x < -2 ^ (w - 1) ∨ 2 ^ (w - 1) ≤ x) }

/-- The code of a truncated result is that of its exact value: in range the truncation changes neither zero nor sign. -/
theorem signedCode_ofInt (hw : 0 < w) (x : Int) :
    signedCode (decide (x < -2 ^ (w - 1) ∨ 2 ^ (w - 1) ≤ x)) (BitVec.ofInt w x) = exactCode w x := by
  by_cases hout : x < -2 ^ (w - 1) ∨ 2 ^ (w - 1) ≤ x
  · simp only [signedCode, exactCode, hout, decide_true, if_true]
  · obtain ⟨hlow, hhigh⟩ := not_or.mp hout
    have hvalue : (BitVec.ofInt w x).toInt = x := BitVec.toInt_ofInt_eq_self hw (not_lt.mp hlow) (not_le.mp hhigh)
    have hzero : BitVec.ofInt w x = 0#w ↔ x = 0 := by rw [← BitVec.toInt_inj, hvalue, BitVec.toInt_zero]
    have hsign : (BitVec.ofInt w x).msb = decide (x < 0) := by rw [BitVec.msb_eq_toInt, hvalue]
    simp [signedCode, exactCode, hout, hzero, hsign]

/-- Truncation commutes with subtraction. -/
theorem ofInt_sub_ofInt (x y : Int) : BitVec.ofInt w (x - y) = BitVec.ofInt w x - BitVec.ofInt w y := by
  rw [Int.sub_eq_add_neg, BitVec.ofInt_add, BitVec.ofInt_neg, BitVec.sub_eq_add_neg]

/-- The sum overflows exactly when both signs differ from its sign. -/
theorem addSigned_overflow (a b : BitVec w) :
    (addSigned a b).overflow = decide (a.toInt + b.toInt < -2 ^ (w - 1) ∨ 2 ^ (w - 1) ≤ a.toInt + b.toInt) := by
  calc (addSigned a b).overflow
    _ = BitVec.saddOverflow a b := (BitVec.saddOverflow_eq a b).symm
    _ = _ := by rw [BitVec.saddOverflow, ← Bool.decide_or]; exact decide_eq_decide.mpr or_comm

/-- The difference overflows exactly when the signs differ and its sign is not the first one's. -/
theorem subSigned_overflow (a b : BitVec w) :
    (subSigned a b).overflow = decide (a.toInt - b.toInt < -2 ^ (w - 1) ∨ 2 ^ (w - 1) ≤ a.toInt - b.toInt) := by
  calc (subSigned a b).overflow
    _ = BitVec.ssubOverflow a b := by
      rw [BitVec.ssubOverflow_eq, subSigned]
      cases a.msb <;> cases b.msb <;> simp
    _ = _ := by rw [BitVec.ssubOverflow, ← Bool.decide_or]; exact decide_eq_decide.mpr or_comm

theorem addSigned_eq (hw : 0 < w) (a b : BitVec w) : addSigned a b = exactArith w (a.toInt + b.toInt) := by
  have hvalue : a + b = BitVec.ofInt w (a.toInt + b.toInt) := by
    rw [BitVec.ofInt_add, BitVec.ofInt_toInt, BitVec.ofInt_toInt]
  have hcode : (addSigned a b).cc = exactCode w (a.toInt + b.toInt) := by
    rw [← signedCode_ofInt hw, ← hvalue, ← addSigned_overflow]
    rfl
  exact Arith.ext hvalue hcode (addSigned_overflow a b)

theorem subSigned_eq (hw : 0 < w) (a b : BitVec w) : subSigned a b = exactArith w (a.toInt - b.toInt) := by
  have hvalue : a - b = BitVec.ofInt w (a.toInt - b.toInt) := by
    rw [ofInt_sub_ofInt, BitVec.ofInt_toInt, BitVec.ofInt_toInt]
  have hcode : (subSigned a b).cc = exactCode w (a.toInt - b.toInt) := by
    rw [← signedCode_ofInt hw, ← hvalue, ← subSigned_overflow]
    rfl
  exact Arith.ext hvalue hcode (subSigned_overflow a b)

/-! ## Logical results (10_state R31, R32) -/

/-- A sum of two words is the exact sum, truncated. -/
theorem add_eq_ofNat (a b : BitVec w) : a + b = BitVec.ofNat w (a.toNat + b.toNat) := by
  rw [BitVec.ofNat_add, BitVec.ofNat_toNat, BitVec.ofNat_toNat, BitVec.setWidth_eq, BitVec.setWidth_eq]

/-- A difference of two words is the exact difference, truncated. -/
theorem sub_eq_ofInt (a b : BitVec w) : a - b = BitVec.ofInt w ((a.toNat : Int) - b.toNat) := by
  rw [ofInt_sub_ofInt, BitVec.ofInt_natCast, BitVec.ofInt_natCast, BitVec.ofNat_toNat, BitVec.ofNat_toNat,
    BitVec.setWidth_eq, BitVec.setWidth_eq]

/-- The quotient of the exact sum is the carry, zero or one. -/
theorem addLogical_cc (a b : BitVec w) : (addLogical a b).cc = logicalAddCode a b := by
  have hzero : a + b = 0#w ↔ (a.toNat + b.toNat) % 2 ^ w = 0 := by
    rw [← BitVec.toNat_inj, BitVec.toNat_add, BitVec.toNat_zero]
  simp only [addLogical, logicalAddCode, hzero, decide_eq_true_eq]
  by_cases hcarry : 2 ^ w ≤ a.toNat + b.toNat
  · have hone : (a.toNat + b.toNat) / 2 ^ w = 1 :=
      Nat.div_eq_of_lt_le (by omega) (by have := a.isLt; have := b.isLt; omega)
    simp only [hone, hcarry, if_true]
    split <;> rfl
  · have hnone : (a.toNat + b.toNat) / 2 ^ w = 0 := Nat.div_eq_of_lt (not_le.mp hcarry)
    simp only [hnone, hcarry, if_false]
    split <;> rfl

theorem addLogical_eq (a b : BitVec w) :
    addLogical a b = ⟨BitVec.ofNat w (a.toNat + b.toNat), logicalAddCode a b, false⟩ :=
  Arith.ext (add_eq_ofNat a b) (addLogical_cc a b) rfl

/-- A difference is zero when the operands are equal, and borrows when the first is the less. -/
theorem subLogical_cc (a b : BitVec w) : (subLogical a b).cc = logicalSubCode a b := by
  have hzero : a - b = 0#w ↔ a.toNat = b.toNat := by
    rw [BitVec.sub_eq_iff_eq_add, BitVec.zero_add, BitVec.toNat_inj]
  simp only [subLogical, logicalSubCode, hzero, ← not_le, ite_not]

theorem subLogical_eq (a b : BitVec w) :
    subLogical a b = ⟨BitVec.ofInt w ((a.toNat : Int) - b.toNat), logicalSubCode a b, false⟩ :=
  Arith.ext (sub_eq_ofInt a b) (subLogical_cc a b) rfl

/-! ## Comparisons (10_state R33) -/

theorem compareSigned_eq (a b : BitVec w) : compareSigned a b = comparisonCode a.toInt b.toInt := rfl

theorem compareLogical_eq (a b : BitVec w) : compareLogical a b = comparisonCode a.toNat b.toNat := by
  simp only [compareLogical, comparisonCode, Int.ofNat_inj, Int.ofNat_lt]

end Sys2Proof.Machine
end

section
/-! PROOFS. How an instruction without a store ends (00_scope R13), and the arithmetic, the branch and the comparisons
of the high-word facility (40_high_word_a; 41_high_word_b R162 to R165). -/

namespace Sys2Proof.Machine

variable {i : Instr} {s : State} {n : Nat}

/-! ## The end of an instruction -/

/-- The state in which an instruction that neither stores nor draws ends. -/
def State.ending (s : State) (gr : Vector Dword 16) (cc : CondCode) (pc : Dword) (status : CpuStatus) : State :=
  { s with cpu :=
    { s.cpu with gr := gr, psw := { s.cpu.psw with cc := cc, pc := pc }, status := status, early := [] } }

section
variable (s : State) (gr : Vector Dword 16) (cc : CondCode) (pc : Dword) (status : CpuStatus)

@[simp] theorem State.ending_pc : (s.ending gr cc pc status).cpu.psw.pc = pc := rfl

theorem State.keeps_ending {written : List Reg} (hgr : ∀ r : Reg, r ∉ written → gr[r.val] = s.gr r) :
    s.Keeps (s.ending gr cc pc status) written := s.keeps_update hgr ..

theorem State.keepsStorage_ending : s.KeepsStorage (s.ending gr cc pc status) := ⟨rfl, rfl, fun _ => rfl⟩

end

/-- An instruction that ends without a store, with these registers. -/
theorem ends_of_ending {gr : Vector Dword 16} {written : List Reg} {cc : CondCode} {status : CpuStatus}
    {p : State → Prop} (hexec : exec i s = .next (s.ending gr cc (s.nextPc n) status))
    (hgr : ∀ r : Reg, r ∉ written → gr[r.val] = s.gr r) (hp : p (s.ending gr cc (s.nextPc n) status)) :
    Ends i s n written cc status fun t => s.KeepsStorage t ∧ p t :=
  ⟨_, hexec, rfl, rfl, rfl, s.keeps_ending _ _ _ _ hgr, s.keepsStorage_ending .., hp⟩

/-- The status after results with or without an overflow (60_exceptions R352). -/
def State.statusOnOverflow (s : State) (n : Nat) (overflow : Bool) : CpuStatus :=
  if overflow && s.cpu.psw.fpoMask then
    .faulted { exception := .fixedPointOverflow, code := 0x0008#16, ia := s.cpu.psw.pc, ilen := some n }
  else s.cpu.status

/-- An overflow interruption changes nothing but the status the results end in. -/
theorem complete_ending (s : State) (n : Nat) (overflow : Bool) (gr : Vector Dword 16) (cc : CondCode) (pc : Dword) :
    complete n overflow s (s.ending gr cc pc s.cpu.status) =
      .next (s.ending gr cc pc (s.statusOnOverflow n overflow)) := by
  unfold complete State.statusOnOverflow
  split <;> rfl

/-- Results that do not overflow leave the status. -/
theorem State.statusOnOverflow_false (s : State) (n : Nat) : s.statusOnOverflow n false = s.cpu.status := rfl

/-- An exact result overflows when it is out of range. -/
theorem State.statusOnOverflow_exactArith (s : State) (n w : Nat) (x : Int) :
    s.statusOnOverflow n (exactArith w x).overflow = s.statusAfter n w x := by
  simp only [State.statusOnOverflow, State.statusAfter, exactArith, Bool.and_eq_true, decide_eq_true_eq]

/-! ## A result into a high word (40_high_word_a R130) -/

/-- Writing a high word writes no other register. -/
theorem State.getElem_setGrh_of_notMem (s : State) {r q : Reg} (v : Word) (h : q ∉ [r]) :
    (s.setGrh r v).cpu.gr[q.val] = s.gr q := s.gr_setGrh_other v (List.ne_of_not_mem_cons h)

/-- An ending with the registers of a written high word has that high word, and the low word as before. -/
theorem State.highIs_ending (s : State) (r : Reg) (v : Word) (cc : CondCode) (pc : Dword) (status : CpuStatus) :
    s.HighIs r v (s.ending (s.setGrh r v).cpu.gr cc pc status) := ⟨s.grh_setGrh r v, s.grl_setGrh r v⟩

/-- An instruction that ends with a written high word. -/
theorem ends_of_highWord {r : Reg} {v : Word} {cc : CondCode} {status : CpuStatus}
    (hexec : exec i s = .next (s.ending (s.setGrh r v).cpu.gr cc (s.nextPc n) status)) :
    Ends i s n [r] cc status fun t => s.KeepsStorage t ∧ s.HighIs r v t :=
  ends_of_ending hexec (fun _ => s.getElem_setGrh_of_notMem v) (s.highIs_ending ..)

/-- Everything an arithmetic instruction of the facility does. -/
theorem arithmeticHigh_ends {r : Reg} {res : Arith 32} (h45 : 45 ∈ s.facilities)
    (hexec : exec i s = arithmeticHigh n r res s) :
    Ends i s n [r] res.cc (s.statusOnOverflow n res.overflow)
      fun t => s.KeepsStorage t ∧ s.HighIs r res.value t := by
  rw [arithmeticHigh, requireFacility_of_mem h45] at hexec
  have hend := complete_ending s n res.overflow (s.setGrh r res.value).cpu.gr res.cc (s.nextPc n)
  exact ends_of_highWord (hexec.trans hend)

theorem arithmeticHigh_completesSigned {r : Reg} {res : Arith 32} {x : Int} (h45 : 45 ∈ s.facilities)
    (hexec : exec i s = arithmeticHigh n r res s) (hres : res = exactArith 32 x) :
    CompletesSigned i s n 32 [r] x (s.HighIs r (BitVec.ofInt 32 x)) := by
  subst hres
  rw [CompletesSigned, ← s.statusOnOverflow_exactArith]
  exact arithmeticHigh_ends h45 hexec

theorem arithmeticHigh_completes {r : Reg} {res : Arith 32} {v : Word} {cc : CondCode} (h45 : 45 ∈ s.facilities)
    (hexec : exec i s = arithmeticHigh n r res s) (hres : res = ⟨v, cc, false⟩) :
    Completes i s n [r] cc (s.HighIs r v) := by
  subst hres
  rw [Completes, ← s.statusOnOverflow_false n]
  exact arithmeticHigh_ends h45 hexec

/-- Settles O34: each result is the exact sum or difference of the two operands. -/
theorem signedHigh : Obligations.SignedHigh := by
  intro s r1 r2 r3 i2 h45
  refine ⟨?ahhhr, ?ahhlr, ?aih, ?shhhr, ?shhlr⟩
  case ahhhr | ahhlr | aih => exact arithmeticHigh_completesSigned h45 rfl (addSigned_eq (by decide) ..)
  case shhhr | shhlr => exact arithmeticHigh_completesSigned h45 rfl (subSigned_eq (by decide) ..)

/-- Settles O35: each result is the exact sum or difference modulo 2^32, and none overflows. -/
theorem logicalHigh : Obligations.LogicalHigh := by
  intro s r1 r2 r3 i2 h45
  refine ⟨?alhhhr, ?alhhlr, ?alsih, ?slhhhr, ?slhhlr⟩
  case alhhhr | alhhlr | alsih => exact arithmeticHigh_completes h45 rfl (addLogical_eq ..)
  case slhhhr | slhhlr => exact arithmeticHigh_completes h45 rfl (subLogical_eq ..)

/-- Settles O36: ALSIHN ends with the sum in the high word and the condition code it found. -/
theorem alsihnKeepsCode : Obligations.AlsihnKeepsCode := by
  intro s r1 i2 h45
  rw [← add_eq_ofNat]
  exact ends_of_highWord (requireFacility_of_mem h45 ..)

/-! ## Branch on count (40_high_word_a R138) -/

/-- BRCTH counts down, and goes on or branches as the count was one or not. -/
theorem exec_brcth (r1 : Reg) (ri2 : Word) (h45 : 45 ∈ s.facilities) :
    exec (.brcth r1 ri2) s = .next (s.ending (s.setGrh r1 (s.grh r1 - 1#32)).cpu.gr s.cpu.psw.cc
      (if s.grh r1 = 1#32 then s.nextPc 6 else s.branchTarget ri2) s.cpu.status) := by
  have hzero : s.grh r1 - 1#32 = 0#32 ↔ s.grh r1 = 1#32 := by rw [BitVec.sub_eq_iff_eq_add, BitVec.zero_add]
  refine (requireFacility_of_mem h45 ..).trans ?_
  simp only [hzero]
  split <;> rfl

/-- Settles O37: the registers are those of the decremented high word, and pc is the next address or the target. -/
theorem branchOnCountHigh : Obligations.BranchOnCountHigh := by
  intro s r1 ri2 h45
  refine ⟨_, exec_brcth r1 ri2 h45, ?high, fun hone => if_pos hone, fun hmore => ?target, rfl, rfl,
    s.keeps_ending _ _ _ _ fun _ => s.getElem_setGrh_of_notMem _, s.keepsStorage_ending ..⟩
  case high =>
    have hcount : s.grh r1 - 1#32 = BitVec.ofInt 32 ((s.grh r1).toNat - 1) := sub_eq_ofInt ..
    rw [← hcount]
    exact s.highIs_ending ..
  case target =>
    rw [State.ending_pc, if_neg hmore, s.branchTarget_eq, AMode.toNat_wrap_ofInt]

/-! ## Comparisons (40_high_word_a R139 to R146) -/

/-- An instruction that ends with a condition code and no other result. -/
theorem completes_of_setCc {cc : CondCode} (hexec : exec i s = .next ((s.setCc cc).advance n)) :
    Completes i s n [] cc fun _ => True :=
  ends_of_ending (gr := s.cpu.gr) hexec (fun _ _ => rfl) trivial

theorem compareHigh_completes {c cc : CondCode} (h45 : 45 ∈ s.facilities) (hexec : exec i s = compareHigh n c s)
    (hcode : c = cc) : Completes i s n [] cc fun _ => True := by
  rw [hcode, compareHigh, requireFacility_of_mem h45] at hexec
  exact completes_of_setCc hexec

theorem compareHighStorage_completes {compare : Word → Word → CondCode} {r1 x2 b2 : Reg} {d2 : Disp20} {cc : CondCode}
    (h45 : 45 ∈ s.facilities) (hpresent : s.present (s.operand (s.addressRxy d2 x2 b2) 4) = true)
    (hexec : exec i s = compareHighStorage compare r1 d2 x2 b2 s)
    (hcode : compare (s.grh r1) (BitVec.ofNat 32 (beValue (s.fetchOperand (s.addressRxy d2 x2 b2) 4))) = cc) :
    Completes i s 6 [] cc fun _ => True := by
  rw [compareHighStorage, requireFacility_of_mem h45, withFetch, requirePresent_of_present hpresent, hcode] at hexec
  exact completes_of_setCc hexec

end Sys2Proof.Machine

/-! The model has operations named as the two statements on comparisons, which so stand outside its namespace. -/

namespace Sys2Proof

open Machine

/-- Settles O38: the two codes of the model are those of the exact values, signed and unsigned. -/
theorem compareHigh : Obligations.CompareHigh := by
  intro s r1 r2 i2 h45
  refine ⟨?chhr, ?chlr, ?cih, ?clhhr, ?clhlr, ?clih⟩
  case chhr | chlr | cih => exact compareHigh_completes h45 rfl (compareSigned_eq ..)
  case clhhr | clhlr | clih => exact compareHigh_completes h45 rfl (compareLogical_eq ..)

/-- Settles O39: with its operand in STORAGE, the comparison is with the word fetched. -/
theorem compareHighStorage : Obligations.CompareHighStorage := by
  intro s r1 x2 b2 d2 h45 hpresent
  exact ⟨compareHighStorage_completes h45 hpresent rfl (compareSigned_eq ..),
    compareHighStorage_completes h45 hpresent rfl (compareLogical_eq ..)⟩

end Sys2Proof
end

section
/-! PROOFS. The loads, the rotations and the stores of the high-word facility (41_high_word_b R150 to R161, R166). -/

namespace Sys2Proof.Machine

variable {i : Instr} {s : State}

/-! ## Loads (41_high_word_b R150 to R155) -/

/-- The value of some bytes is one of their number of bytes. -/
theorem beValue_lt (bs : List Byte) : beValue bs < 256 ^ bs.length := by
  induction bs with
  | nil => exact Nat.one_pos
  | cons b rest ih =>
    have hb : b.toNat + 1 ≤ 256 := b.isLt
    calc beValue (b :: rest)
      _ = b.toNat * 256 ^ rest.length + beValue rest := rfl
      _ < b.toNat * 256 ^ rest.length + 256 ^ rest.length := Nat.add_lt_add_left ih _
      _ = (b.toNat + 1) * 256 ^ rest.length := (Nat.succ_mul ..).symm
      _ ≤ 256 * 256 ^ rest.length := Nat.mul_le_mul_right _ hb
      _ = 256 ^ (b :: rest).length := (Nat.pow_succ' ..).symm

/-- An operand fetch answers one byte for each address. -/
theorem State.length_fetchOperand (s : State) (a : Dword) (n : Nat) : (s.fetchOperand a n).length = n := by
  obtain ⟨f, hfetch, -⟩ := s.fetchOperand_eq_map a n
  rw [hfetch, List.length_map, State.length_operand]

/-- A fetched value that fits in `m` bits, cut to them and zero-extended, is the value itself. -/
theorem setWidth_ofNat_eq_ofInt {m v : Nat} (h : v < 2 ^ m) :
    (BitVec.ofNat m v).setWidth 32 = BitVec.ofInt 32 v := by
  apply BitVec.eq_of_toNat_eq
  rw [BitVec.ofInt_natCast, BitVec.toNat_setWidth, BitVec.toNat_ofNat, BitVec.toNat_ofNat, Nat.mod_eq_of_lt h]

/-- Everything a load into a high word does, once its operand is in STORAGE. -/
theorem loadHigh_completes {n : Nat} {widen : Nat → Word} {r x b : Reg} {d : Disp20} {v : Word}
    (h45 : 45 ∈ s.facilities) (hpresent : s.present (s.operand (s.addressRxy d x b) n) = true)
    (hexec : exec i s = loadHigh n widen r d x b s)
    (hvalue : widen (beValue (s.fetchOperand (s.addressRxy d x b) n)) = v) :
    Completes i s 6 [r] s.cpu.psw.cc (s.HighIs r v) := by
  subst hvalue
  exact ends_of_highWord (hexec.trans (loadHigh_of_present widen r h45 hpresent))

/-- A load that zero-extends what it fetches. -/
theorem loadHigh_completes_zeroExtended {n : Nat} {r x b : Reg} {d : Disp20} (h45 : 45 ∈ s.facilities)
    (hpresent : s.present (s.operand (s.addressRxy d x b) n) = true)
    (hexec : exec i s = loadHigh n (fun v => (BitVec.ofNat (8 * n) v).setWidth 32) r d x b s) :
    Completes i s 6 [r] s.cpu.psw.cc
      (s.HighIs r (BitVec.ofInt 32 (beValue (s.fetchOperand (s.addressRxy d x b) n)))) := by
  have hlt : beValue (s.fetchOperand (s.addressRxy d x b) n) < 2 ^ (8 * n) := by
    simpa [Nat.pow_mul, State.length_fetchOperand] using beValue_lt (s.fetchOperand (s.addressRxy d x b) n)
  exact loadHigh_completes h45 hpresent hexec (setWidth_ofNat_eq_ofInt hlt)

/-! ## A result into a low word -/

/-- Writing a low word writes no other register. -/
theorem State.getElem_setGrl_of_notMem (s : State) {r q : Reg} (v : Word) (h : q ∉ [r]) :
    (s.setGrl r v).cpu.gr[q.val] = s.gr q := s.gr_setGrl_other v (List.ne_of_not_mem_cons h)

/-- An ending with the registers of a written low word has that low word, and the high word as before. -/
theorem State.lowIs_ending (s : State) (r : Reg) (v : Word) (cc : CondCode) (pc : Dword) (status : CpuStatus) :
    s.LowIs r v (s.ending (s.setGrl r v).cpu.gr cc pc status) := ⟨s.grl_setGrl r v, s.grh_setGrl r v⟩

/-- An instruction that ends with a written low word. -/
theorem ends_of_lowWord {n : Nat} {r : Reg} {v : Word} {cc : CondCode} {status : CpuStatus}
    (hexec : exec i s = .next (s.ending (s.setGrl r v).cpu.gr cc (s.nextPc n) status)) :
    Ends i s n [r] cc status fun t => s.KeepsStorage t ∧ s.LowIs r v t :=
  ends_of_ending hexec (fun _ => s.getElem_setGrl_of_notMem v) (s.lowIs_ending ..)

/-- A register with a new high word is the two words joined. -/
theorem State.HighIs.gr_eq {t : State} {r : Reg} {v : Word} (h : s.HighIs r v t) :
    t.gr r = joinWords v (s.grl r) := by
  obtain ⟨hhigh, hlow⟩ := h
  rw [← hhigh, ← hlow]
  exact (joinWords_words _).symm

/-- A register with a new low word is the two words joined. -/
theorem State.LowIs.gr_eq {t : State} {r : Reg} {v : Word} (h : s.LowIs r v t) :
    t.gr r = joinWords (s.grh r) v := by
  obtain ⟨hlow, hhigh⟩ := h
  rw [← hhigh, ← hlow]
  exact (joinWords_words _).symm

/-- What holds of the state in which an instruction completes may be replaced by what follows from it. -/
theorem Completes.imp {n : Nat} {written : List Reg} {cc : CondCode} {p q : State → Prop}
    (h : Completes i s n written cc p) (hpq : ∀ t, p t → q t) : Completes i s n written cc q := by
  obtain ⟨t, hexec, hpc, hcc, hstatus, hkeeps, hstorage, hp⟩ := h
  exact ⟨t, hexec, hpc, hcc, hstatus, hkeeps, hstorage, hpq t hp⟩

/-! ## Bits from the left -/

/-- A word is the left (`half` 0) or the right (`half` 1) half of a doubleword. -/
def IsHalf (half : Nat) (w : Word) (v : Dword) : Prop := ∀ j < 32, w.getMsbD j = v.getMsbD (32 * half + j)

theorem isHalf_highWord (v : Dword) : IsHalf 0 (highWord v) v := by
  intro j hj
  have hplace : 64 - (64 - j) = j := by omega
  have hin : 64 - j ≤ 64 := Nat.sub_le ..
  simp [highWord, BitVec.getMsbD_extractLsb', hj, hplace, hin]

theorem isHalf_lowWord (v : Dword) : IsHalf 1 (lowWord v) v := by
  intro j hj
  have hplace : 64 - (32 - j) = 32 + j := by omega
  have hin : 32 - j ≤ 64 := by omega
  simp [lowWord, BitVec.getMsbD_extractLsb', hj, hplace, hin]

theorem getMsbD_joinWords (high low : Word) (k : Nat) :
    (joinWords high low).getMsbD k = if 32 ≤ k then low.getMsbD (k - 32) else high.getMsbD k := BitVec.getMsbD_append

/-! ## Rotate then insert (41_high_word_b R156) -/

/-- Bits 3-7 of I3 and I4 give a bit position in a half. -/
theorem toNat_bitPosition (v : Byte) : (v.extractLsb' 0 5).toNat = v.toNat % 32 := BitVec.extractLsb'_toNat 0 5 v

/-- Bits 2-7 of I5 give the amount. -/
theorem toNat_rotateAmount (v : Byte) : (v.extractLsb' 0 6).toNat = v.toNat % 64 := BitVec.extractLsb'_toNat 0 6 v

/-- The selected bits reach from `start` to `last`, or wrap around. -/
theorem getMsbD_selectedBits (start last : Nat) {j : Nat} (hj : j < 32) :
    (selectedBits start last).getMsbD j =
      decide (if start ≤ last then start ≤ j ∧ j ≤ last else j ≥ start ∨ j ≤ last) := by
  have hstart : (BitVec.allOnes 32 >>> start).getMsbD j = decide (start ≤ j) := by
    rw [BitVec.getMsbD_ushiftRight, BitVec.getMsbD_allOnes, ← decide_not, ← Bool.decide_and, ← Bool.decide_and,
      decide_eq_decide]
    omega
  have hlast : (BitVec.allOnes 32 <<< (31 - last)).getMsbD j = decide (j ≤ last) := by
    rw [BitVec.getMsbD_shiftLeft, BitVec.getMsbD_allOnes, decide_eq_decide]
    omega
  unfold selectedBits
  split
  · rw [BitVec.getMsbD_and, hstart, hlast, Bool.decide_and]
  · rw [BitVec.getMsbD_or, hstart, hlast, Bool.decide_or]

/-- A selected bit is the rotated operand's; another one is zero or the old one, as I4 bit 0 says. -/
theorem getMsbD_insertSelected (old rotated : Word) (i3 i4 : Byte) {j : Nat} (hj : j < 32) :
    (insertSelected old rotated i3 i4).getMsbD j =
      if (selectedBits (i3.toNat % 32) (i4.toNat % 32)).getMsbD j then rotated.getMsbD j
      else if i4.getMsbD 0 then false else old.getMsbD j := by
  rw [insertSelected, toNat_bitPosition, toNat_bitPosition, BitVec.msb_eq_getMsbD_zero, BitVec.getMsbD_or,
    BitVec.getMsbD_and]
  cases hselected : (selectedBits (i3.toNat % 32) (i4.toNat % 32)).getMsbD j with
  | true => split <;> simp [BitVec.getMsbD_not, hselected]
  | false => split <;> simp [BitVec.getMsbD_not, hselected, hj]

/-- Each bit of the rotated operand is the source's bit the amount further right, around the doubleword. -/
theorem getMsbD_rotatedOperand (src : Dword) (i5 : Byte) {k : Nat} (hk : k < 64) :
    (rotatedOperand src i5).getMsbD k = src.getMsbD ((k + i5.toNat % 64) % 64) := by
  rw [rotatedOperand, toNat_rotateAmount, BitVec.getMsbD_rotateLeft, decide_eq_true hk, Bool.true_and, Nat.add_comm]

/-- Inside the affected half, R156 gives the bits the model inserts into it; outside, the old ones. -/
theorem insertedBit_eq {half : Nat} {old src : Dword} {oldHalf rotated : Word} {i3 i4 i5 : Byte}
    (hold : IsHalf half oldHalf old) (hrotated : IsHalf half rotated (rotatedOperand src i5)) {k : Nat} (hk : k < 64) :
    insertedBit half old src i3 i4 i5 k =
      if 32 * half ≤ k ∧ k ≤ 32 * half + 31 then (insertSelected oldHalf rotated i3 i4).getMsbD (k - 32 * half)
      else old.getMsbD k := by
  unfold insertedBit
  refine ite_congr rfl (fun hin => ?_) fun _ => rfl
  obtain ⟨j, rfl⟩ := Nat.exists_eq_add_of_le hin.1
  have hj : j < 32 := by omega
  rw [Nat.add_sub_cancel_left, getMsbD_insertSelected _ _ _ _ hj, getMsbD_selectedBits _ _ hj, hold j hj,
    hrotated j hj, getMsbD_rotatedOperand src i5 hk]
  simp only [decide_eq_true_eq, Nat.add_le_add_iff_left, ge_iff_le]

/-- Everything RISBHG does, in terms of words. -/
theorem risbhg_completes (r1 r2 : Reg) (i3 i4 i5 : Byte) (h45 : 45 ∈ s.facilities) :
    Completes (.risbhg r1 r2 i3 i4 i5) s 6 [r1] s.cpu.psw.cc
      (s.HighIs r1 (insertSelected (s.grh r1) (highWord (rotatedOperand (s.gr r2) i5)) i3 i4)) :=
  ends_of_highWord (requireFacility_of_mem h45 ..)

/-- Everything RISBLG does, in terms of words. -/
theorem risblg_completes (r1 r2 : Reg) (i3 i4 i5 : Byte) (h45 : 45 ∈ s.facilities) :
    Completes (.risblg r1 r2 i3 i4 i5) s 6 [r1] s.cpu.psw.cc
      (s.LowIs r1 (insertSelected (s.grl r1) (lowWord (rotatedOperand (s.gr r2) i5)) i3 i4)) :=
  ends_of_lowWord (requireFacility_of_mem h45 ..)

/-- Settles O41: R1 is the affected half with the selected bits inserted, joined with the other half as it was. -/
theorem rotateThenInsert : Obligations.RotateThenInsert := by
  intro s r1 r2 i3 i4 i5 h45
  constructor
  · refine (risbhg_completes r1 r2 i3 i4 i5 h45).imp fun t ht k hk => ?_
    rw [ht.gr_eq, insertedBit_eq (isHalf_highWord _) (isHalf_highWord _) hk, getMsbD_joinWords]
    by_cases hright : 32 ≤ k
    · obtain ⟨j, rfl⟩ := Nat.exists_eq_add_of_le hright
      rw [if_pos hright, if_neg (by omega), Nat.add_sub_cancel_left]
      exact isHalf_lowWord _ j (by omega)
    · rw [if_neg hright, if_pos (by omega)]
      rfl
  · refine (risblg_completes r1 r2 i3 i4 i5 h45).imp fun t ht k hk => ?_
    rw [ht.gr_eq, insertedBit_eq (isHalf_lowWord _) (isHalf_lowWord _) hk, getMsbD_joinWords]
    by_cases hright : 32 ≤ k
    · rw [if_pos hright, if_pos (by omega)]
      rfl
    · rw [if_neg hright, if_neg (by omega)]
      exact (isHalf_highWord (s.gr r1) k (by omega)).trans (congrArg _ (Nat.zero_add k))

/-! ## The pseudo-instructions (41_high_word_b R166) -/

/-- With I4 bit 0 one the bits that are not selected are zero. -/
theorem insertSelected_zeroing (old rotated : Word) (i3 : Byte) :
    insertSelected old rotated i3 0x9F#8 = rotated &&& selectedBits (i3.extractLsb' 0 5).toNat 31 := BitVec.or_zero

/-- A half of a doubleword rotated by an amount that carries one of its halves there is that half. -/
theorem IsHalf.eq_of_rotated {half half' : Nat} {w w' : Word} {v : Dword} {i5 : Byte}
    (h : IsHalf half w (rotatedOperand v i5)) (h' : IsHalf half' w' v) (hhalf : half ≤ 1) (hhalf' : half' ≤ 1)
    (hamount : (32 * half + i5.toNat % 64) % 64 = 32 * half') : w = w' := by
  apply BitVec.eq_of_getMsbD_eq
  intro j hj
  have hplace : (32 * half + j + i5.toNat % 64) % 64 = 32 * half' + j := by omega
  rw [h j hj, h' j hj, getMsbD_rotatedOperand v i5 (by omega), hplace]

/-- RISBHG with I4 bit 0 one, whose selected bits end at the rightmost. -/
theorem risbhg_zeroing_completes {r1 r2 : Reg} {i3 i5 : Byte} {mask v : Word} (h45 : 45 ∈ s.facilities)
    (hrotated : highWord (rotatedOperand (s.gr r2) i5) = v)
    (hmask : selectedBits (i3.extractLsb' 0 5).toNat 31 = mask) :
    Completes (.risbhg r1 r2 i3 0x9F#8 i5) s 6 [r1] s.cpu.psw.cc (s.HighIs r1 (v &&& mask)) := by
  rw [← hrotated, ← hmask, ← insertSelected_zeroing]
  exact risbhg_completes r1 r2 i3 0x9F#8 i5 h45

/-- RISBLG with I4 bit 0 one, whose selected bits end at the rightmost. -/
theorem risblg_zeroing_completes {r1 r2 : Reg} {i3 i5 : Byte} {mask v : Word} (h45 : 45 ∈ s.facilities)
    (hrotated : lowWord (rotatedOperand (s.gr r2) i5) = v)
    (hmask : selectedBits (i3.extractLsb' 0 5).toNat 31 = mask) :
    Completes (.risblg r1 r2 i3 0x9F#8 i5) s 6 [r1] s.cpu.psw.cc (s.LowIs r1 (v &&& mask)) := by
  rw [← hrotated, ← hmask, ← insertSelected_zeroing]
  exact risblg_completes r1 r2 i3 0x9F#8 i5 h45

/-- Settles O42: the amount names the word of R2, and I3 how much of it is selected. -/
theorem extendedMnemonics : Obligations.ExtendedMnemonics := by
  intro s r1 r2 h45
  have hword : selectedBits ((0x00#8).extractLsb' 0 5).toNat 31 = BitVec.allOnes 32 := by decide
  have hhalf : selectedBits ((0x10#8).extractLsb' 0 5).toNat 31 = 0xFFFF#32 := by decide
  have hchar : selectedBits ((0x18#8).extractLsb' 0 5).toNat 31 = 0xFF#32 := by decide
  have hhighSame : highWord (rotatedOperand (s.gr r2) 0x00#8) = s.grh r2 :=
    (isHalf_highWord _).eq_of_rotated (isHalf_highWord _) (by decide) (by decide) rfl
  have hhighOther : highWord (rotatedOperand (s.gr r2) 0x20#8) = s.grl r2 :=
    (isHalf_highWord _).eq_of_rotated (isHalf_lowWord _) (by decide) (by decide) rfl
  have hlowOther : lowWord (rotatedOperand (s.gr r2) 0x20#8) = s.grh r2 :=
    (isHalf_lowWord _).eq_of_rotated (isHalf_highWord _) (by decide) (by decide) rfl
  refine ⟨?lhhr, ?lhlr, ?llhfr, ?llhhhr, ?llhhlr, ?llhlhr, ?llchhr, ?llchlr, ?llclhr⟩
  case lhhr => simpa only [BitVec.and_allOnes] using risbhg_zeroing_completes h45 hhighSame hword
  case lhlr => simpa only [BitVec.and_allOnes] using risbhg_zeroing_completes h45 hhighOther hword
  case llhfr => simpa only [BitVec.and_allOnes] using risblg_zeroing_completes h45 hlowOther hword
  case llhhhr => exact risbhg_zeroing_completes h45 hhighSame hhalf
  case llhhlr => exact risbhg_zeroing_completes h45 hhighOther hhalf
  case llhlhr => exact risblg_zeroing_completes h45 hlowOther hhalf
  case llchhr => exact risbhg_zeroing_completes h45 hhighSame hchar
  case llchlr => exact risbhg_zeroing_completes h45 hhighOther hchar
  case llclhr => exact risblg_zeroing_completes h45 hlowOther hchar

/-! ## Stores (41_high_word_b R150, R159 to R161) -/

/-- An ordinary store of no more bytes than the smallest address space has waits in the buffer. -/
theorem State.storesUnseen_storing (s : State) (a : Dword) {bytes : List Byte} (hlength : bytes.length ≤ 2 ^ 24) :
    s.StoresUnseen (s.storing a bytes) a bytes where
  stores := ⟨(s.stores_bufferStore a hlength).written, (s.stores_bufferStore a hlength).elsewhere⟩
  storage := rfl
  buffer := rfl

/-- Everything a store from a high word does, once its operand is in STORAGE and outside program text. -/
theorem storeHigh_ends {w n : Nat} {v : BitVec w} {d : Disp20} {x b : Reg} {bytes : List Byte}
    (h45 : 45 ∈ s.facilities) (hexec : exec i s = storeHigh n v d x b s) (hbytes : bytesOf n v = bytes)
    (hn : n ≤ 2 ^ 24) (hpresent : s.present (s.operand (s.addressRxy d x b) bytes.length) = true)
    (htext : ∀ a ∈ s.operand (s.addressRxy d x b) bytes.length, s.hasText a = false) :
    Ends i s 6 [] s.cpu.psw.cc s.cpu.status fun t => s.StoresUnseen t (s.addressRxy d x b) bytes := by
  subst hbytes
  rw [length_bytesOf] at hpresent htext
  exact ⟨_, hexec.trans (storeHigh_of_present v h45 hpresent htext), rfl, rfl, rfl, s.keeps_update_of_gr ..,
    s.storesUnseen_storing _ ((length_bytesOf n v).trans_le hn)⟩

end Sys2Proof.Machine

/-! The model has operations named as the statements on loads and stores, which so stand outside its namespace. -/

namespace Sys2Proof

open Machine

/-- Settles O40: each load fetches its bytes and widens them as its rule says. -/
theorem loadHigh : Obligations.LoadHigh := by
  intro s r1 x2 b2 d2 h45
  refine ⟨fun hbyte => ⟨?lbh, ?llch⟩, fun hhalf => ⟨?lhh, ?llhh⟩, fun hword => ?lfh⟩
  case lbh => exact loadHigh_completes h45 hbyte rfl rfl
  case llch => exact loadHigh_completes_zeroExtended h45 hbyte rfl
  case lhh => exact loadHigh_completes h45 hhalf rfl rfl
  case llhh => exact loadHigh_completes_zeroExtended h45 hhalf rfl
  case lfh => exact loadHigh_completes h45 hword rfl (BitVec.ofInt_natCast ..).symm

/-- Settles O43: the bytes stored are the rightmost ones of the high word, the most significant first. -/
theorem storeHigh : Obligations.StoreHigh := by
  intro s r1 x2 b2 d2 h45
  have hchar : bytesOf 1 ((s.grh r1).setWidth 8) = [(s.grh r1).extractLsb' 0 8] := by
    simp [bytesOf, BitVec.extractLsb'_setWidth_of_le]
  have hhalf : bytesOf 2 ((s.grh r1).setWidth 16) = [(s.grh r1).extractLsb' 8 8, (s.grh r1).extractLsb' 0 8] := by
    simp [bytesOf, BitVec.extractLsb'_setWidth_of_le]
  refine ⟨?stch, ?sthh, ?stfh⟩
  case stch => exact storeHigh_ends h45 rfl hchar (by decide)
  case sthh => exact storeHigh_ends h45 rfl hhalf (by decide)
  case stfh => exact storeHigh_ends h45 rfl rfl (by decide)

end Sys2Proof
end

section
/-! PROOFS. The interlocked-access facility (42_interlocked_access): the updates of storage, interlocked (20_memory R68)
and not (R69), and the loads of a pair (R70). -/

namespace Sys2Proof.Machine

variable {i : Instr} {s : State}

/-! ## An interlocked store (20_memory R68, R75) -/

/-- The bytes of a store that is no longer than the smallest address space lie at different addresses. -/
theorem State.nodup_storedCells (s : State) (a : Dword) {bytes : List Byte} (hlength : bytes.length ≤ 2 ^ 24) :
    (((s.operand a bytes.length).zip bytes).map (·.1)).Nodup := by
  rw [List.map_fst_zip (s.length_operand a _).le]
  exact operandAddresses_nodup _ _ hlength

/-- An interlocked store leaves in storage what an ordinary one would let the CPU see. -/
theorem State.Sound.read_writeStorage_drainAll (hs : s.Sound) (a : Dword) {bytes : List Byte}
    (hlength : bytes.length ≤ 2 ^ 24) (x : Nat) :
    Memory.read (s.drainAll.writeStorage a bytes).storage x = (s.bufferStore a bytes).view x := by
  rw [s.view_bufferStore, ← hs.read_drainAll]
  exact Memory.read_writeCells (drainAll_wf hs.canonical) (s.nodup_storedCells a hlength) x

/-- After an interlocked store every agent sees the bytes stored, and every other byte as the CPU saw it. -/
theorem State.Sound.storesSeen (hs : s.Sound) (a : Dword) {bytes : List Byte} (hlength : bytes.length ≤ 2 ^ 24) :
    s.StoresSeen (s.drainAll.writeStorage a bytes) a bytes := by
  have hview : (s.drainAll.writeStorage a bytes).view = (s.bufferStore a bytes).view := by
    funext x
    rw [State.view_of_buffer_nil rfl, hs.read_writeStorage_drainAll a hlength]
  have hstores := s.stores_bufferStore a hlength
  exact ⟨⟨hview ▸ hstores.written, hview ▸ hstores.elsewhere⟩, fun x => (State.view_of_buffer_nil rfl x).symm, rfl⟩

/-! ## What the access forms let through -/

/-- An interlocked update reads what the CPU sees, with the CPU's own stores already visible. -/
theorem withInterlocked_of_present {a : Dword} {n : Nat} (hs : s.Sound) (hpresent : s.present (s.operand a n) = true)
    (htext : ∀ x ∈ s.operand a n, s.hasText x = false) (il : Nat) (k : State → Nat → Result) :
    withInterlocked a n il s k = k s.drainAll (beValue (s.fetchNow (s.operand a n))) := by
  have hread : Memory.read s.drainAll.storage = s.view := funext hs.read_drainAll
  rw [withInterlocked, requirePresent_of_present hpresent, requireNoText_of_forall htext, hread, State.fetchNow]

theorem withUpdate_of_present {a : Dword} {n : Nat} (hpresent : s.present (s.operand a n) = true)
    (htext : ∀ x ∈ s.operand a n, s.hasText x = false) (il : Nat) (k : Nat → Result) :
    withUpdate a n il s k = k (beValue (s.fetchForUpdate a n)) := by
  rw [withUpdate, requirePresent_of_present hpresent, requireNoText_of_forall htext]

/-! ## The end of an instruction that has stored -/

theorem State.keeps_writeStorage_drainAll (s : State) (a : Dword) (bytes : List Byte) :
    s.Keeps (s.drainAll.writeStorage a bytes) [] := s.keeps_update_of_gr ..

theorem State.keeps_bufferStore (s : State) (a : Dword) (bytes : List Byte) : s.Keeps (s.bufferStore a bytes) [] :=
  s.keeps_update_of_gr ..

/-- An ending after `u`, which no general register was written on the way to. -/
theorem State.Keeps.ending {u : State} {written : List Reg} (hkeeps : s.Keeps u []) {gr : Vector Dword 16}
    (hgr : ∀ r : Reg, r ∉ written → gr[r.val] = s.gr r) (cc : CondCode) (pc : Dword) (status : CpuStatus) :
    s.Keeps (u.ending gr cc pc status) written :=
  have hunwritten (r : Reg) : u.gr r = s.gr r := hkeeps.registers r List.not_mem_nil
  State.Keeps.trans { hkeeps with registers := fun r _ => hunwritten r }
    (u.keeps_ending gr cc pc status fun r hr => (hgr r hr).trans (hunwritten r).symm)

/-- An overflow interruption after `u` changes nothing but the status the results end in. -/
theorem complete_ending_after (s u : State) (n : Nat) (overflow : Bool) (gr : Vector Dword 16) (cc : CondCode)
    (pc : Dword) : complete n overflow s (u.ending gr cc pc s.cpu.status) =
      .next (u.ending gr cc pc (s.statusOnOverflow n overflow)) := by
  unfold complete State.statusOnOverflow
  split <;> rfl

/-- An instruction that reaches `u` by its store, and there ends with a result that may overflow. -/
theorem ends_of_complete {u : State} {n : Nat} {overflow : Bool} {gr : Vector Dword 16} {written : List Reg}
    {cc : CondCode} {status : CpuStatus} {p : State → Prop} (hkeeps : s.Keeps u [])
    (hexec : exec i s = complete n overflow s (u.ending gr cc (s.nextPc n) s.cpu.status))
    (hstatus : s.statusOnOverflow n overflow = status) (hgr : ∀ r : Reg, r ∉ written → gr[r.val] = s.gr r)
    (hp : p (u.ending gr cc (s.nextPc n) status)) : Ends i s n written cc status p := by
  subst hstatus
  exact ⟨_, hexec.trans (complete_ending_after ..), rfl, rfl, rfl, hkeeps.ending hgr .., hp⟩

section
variable {u : State} {a : Dword} {bytes : List Byte}

/-- An ending leaves what the store before it has made of storage. -/
theorem State.StoresSeen.ending (h : s.StoresSeen u a bytes) (gr : Vector Dword 16) (cc : CondCode) (pc : Dword)
    (status : CpuStatus) : s.StoresSeen (u.ending gr cc pc status) a bytes :=
  ⟨⟨h.stores.written, h.stores.elsewhere⟩, h.storage, h.buffer⟩

theorem State.StoresUnseen.ending (h : s.StoresUnseen u a bytes) (gr : Vector Dword 16) (cc : CondCode) (pc : Dword)
    (status : CpuStatus) : s.StoresUnseen (u.ending gr cc pc status) a bytes :=
  ⟨⟨h.stores.written, h.stores.elsewhere⟩, h.storage, h.buffer⟩

end

/-- An ordinary store of no more bytes than the smallest address space has. -/
theorem State.storesUnseen_bufferStore (s : State) (a : Dword) {bytes : List Byte} (hlength : bytes.length ≤ 2 ^ 24) :
    s.StoresUnseen (s.bufferStore a bytes) a bytes := ⟨s.stores_bufferStore a hlength, rfl, rfl⟩

/-! ## What an operation delivers (10_state R29, R31, R34) -/

/-- The operation delivers this value and condition code, and the instruction of `n` bytes ends in this status. -/
structure State.Delivers (s : State) (n : Nat) {w : Nat} (res : Arith w) (new : BitVec w) (cc : CondCode)
    (status : CpuStatus) : Prop where
  value : res.value = new
  code : res.cc = cc
  status : s.statusOnOverflow n res.overflow = status

section
variable (s : State) (n : Nat) {w : Nat}

theorem State.delivers_exactArith (x : Int) :
    s.Delivers n (exactArith w x) (BitVec.ofInt w x) (exactCode w x) (s.statusAfter n w x) :=
  ⟨rfl, rfl, s.statusOnOverflow_exactArith ..⟩

theorem State.delivers_addSigned (hw : 0 < w) (a b : BitVec w) :
    s.Delivers n (addSigned a b) (BitVec.ofInt w (a.toInt + b.toInt)) (exactCode w (a.toInt + b.toInt))
      (s.statusAfter n w (a.toInt + b.toInt)) := by
  rw [addSigned_eq hw]
  exact s.delivers_exactArith ..

theorem State.delivers_addLogical (a b : BitVec w) :
    s.Delivers n (addLogical a b) (BitVec.ofNat w (a.toNat + b.toNat)) (logicalAddCode a b) s.cpu.status :=
  ⟨add_eq_ofNat a b, addLogical_cc a b, rfl⟩

theorem State.delivers_bitwise (r : BitVec w) : s.Delivers n (bitwise r) r (zeroCode r) s.cpu.status := ⟨rfl, rfl, rfl⟩

/-- A signed addition of a sign-extended immediate is that of its value (30_encoding R110). -/
theorem State.delivers_addSigned_signExtend (hw : 8 ≤ w) (a : BitVec w) (i2 : Byte) :
    s.Delivers n (addSigned a (i2.signExtend w)) (BitVec.ofInt w (a.toInt + i2.toInt))
      (exactCode w (a.toInt + i2.toInt)) (s.statusAfter n w (a.toInt + i2.toInt)) := by
  rw [← BitVec.toInt_signExtend_of_le (x := i2) hw]
  exact s.delivers_addSigned n (by omega) ..

/-- A logical addition of a sign-extended immediate delivers the value of the signed one. -/
theorem State.delivers_addLogical_signExtend (hw : 8 ≤ w) (a : BitVec w) (i2 : Byte) :
    s.Delivers n (addLogical a (i2.signExtend w)) (BitVec.ofInt w (a.toInt + i2.toInt))
      (logicalAddCode a (i2.signExtend w)) s.cpu.status :=
  ⟨(s.delivers_addSigned_signExtend n hw a i2).value, addLogical_cc .., rfl⟩

end

/-! ## Load and update (42_interlocked_access R170 to R180) -/

section
variable {r1 r3 b2 : Reg} {d2 : Disp20} {a : Dword} {cc : CondCode} {status : CpuStatus}

/-- Everything LAA and its kin do, with the operand aligned, in STORAGE and outside program text. -/
theorem loadAndUpdate32_ends {op : Word → Word → Arith 32} {old new : Word} (hs : s.Sound) (h45 : 45 ∈ s.facilities)
    (ha : s.addressRsy d2 b2 = a) (haligned : a.toNat % 4 = 0) (hpresent : s.present (s.operand a 4) = true)
    (htext : ∀ x ∈ s.operand a 4, s.hasText x = false)
    (hold : BitVec.ofNat 32 (beValue (s.fetchNow (s.operand a 4))) = old)
    (hexec : exec i s = loadAndUpdate32 op r1 r3 d2 b2 s)
    (hres : s.Delivers 6 (op old (s.grl r3)) new cc status) :
    Ends i s 6 [r1] cc status fun t => s.LowIs r1 old t ∧ s.StoresSeen t a (bytesOf 4 new) := by
  subst ha hold
  obtain ⟨rfl, rfl, hstatus⟩ := hres
  rw [loadAndUpdate32, requireFacility_of_mem h45, requireDesignation_of_ok (aligned_iff.mpr haligned),
    withInterlocked_of_present hs hpresent htext] at hexec
  exact ends_of_complete (gr := (s.setGrl r1 _).cpu.gr) (s.keeps_writeStorage_drainAll ..) hexec hstatus
    (fun _ => s.getElem_setGrl_of_notMem _)
    ⟨⟨s.grl_setGrl .., s.grh_setGrl ..⟩, (hs.storesSeen _ (by simp)).ending ..⟩

/-- Everything LAAG and its kin do, with the operand aligned, in STORAGE and outside program text. -/
theorem loadAndUpdate64_ends {op : Dword → Dword → Arith 64} {old new : Dword} (hs : s.Sound) (h45 : 45 ∈ s.facilities)
    (ha : s.addressRsy d2 b2 = a) (haligned : a.toNat % 8 = 0) (hpresent : s.present (s.operand a 8) = true)
    (htext : ∀ x ∈ s.operand a 8, s.hasText x = false)
    (hold : BitVec.ofNat 64 (beValue (s.fetchNow (s.operand a 8))) = old)
    (hexec : exec i s = loadAndUpdate64 op r1 r3 d2 b2 s)
    (hres : s.Delivers 6 (op old (s.gr r3)) new cc status) :
    Ends i s 6 [r1] cc status fun t => t.gr r1 = old ∧ s.StoresSeen t a (bytesOf 8 new) := by
  subst ha hold
  obtain ⟨rfl, rfl, hstatus⟩ := hres
  rw [loadAndUpdate64, requireFacility_of_mem h45, requireDesignation_of_ok (aligned_iff.mpr haligned),
    withInterlocked_of_present hs hpresent htext] at hexec
  exact ends_of_complete (gr := (s.setGr r1 _).cpu.gr) (s.keeps_writeStorage_drainAll ..) hexec hstatus
    (fun _ hr => s.gr_setGr_other _ (List.ne_of_not_mem_cons hr))
    ⟨s.gr_setGr_self .., (hs.storesSeen _ (by simp)).ending ..⟩

end

/-- Settles O44: each combines the word all agents see with the low word of R3, and only LAA can overflow. -/
theorem loadAndUpdateWord : Obligations.LoadAndUpdateWord := by
  intro s r1 r3 b2 d2 hs h45 a haligned hpresent htext
  refine ⟨?laa, ?laal, ?lan, ?lax, ?lao⟩
  case laa =>
    exact loadAndUpdate32_ends hs h45 rfl haligned hpresent htext rfl rfl (s.delivers_addSigned 6 (by decide) ..)
  case laal =>
    exact loadAndUpdate32_ends hs h45 rfl haligned hpresent htext rfl rfl (s.delivers_addLogical ..)
  case lan | lax | lao =>
    exact loadAndUpdate32_ends hs h45 rfl haligned hpresent htext rfl rfl (s.delivers_bitwise ..)

/-- Settles O45: each combines the doubleword all agents see with R3, and only LAAG can overflow. -/
theorem loadAndUpdateDoubleword : Obligations.LoadAndUpdateDoubleword := by
  intro s r1 r3 b2 d2 hs h45 a haligned hpresent htext
  refine ⟨?laag, ?laalg, ?lang, ?laxg, ?laog⟩
  case laag =>
    exact loadAndUpdate64_ends hs h45 rfl haligned hpresent htext rfl rfl (s.delivers_addSigned 6 (by decide) ..)
  case laalg =>
    exact loadAndUpdate64_ends hs h45 rfl haligned hpresent htext rfl rfl (s.delivers_addLogical ..)
  case lang | laxg | laog =>
    exact loadAndUpdate64_ends hs h45 rfl haligned hpresent htext rfl rfl (s.delivers_bitwise ..)

/-! ## Load pair disjoint (42_interlocked_access R181, R182) -/

/-- What LPD and LPDG fetch of an operand: as it is now, or, when an operand was altered, as it may have been fetched
early. -/
def State.fetchPaired (s : State) (altered : Bool) (a : Dword) (n : Nat) : Nat :=
  beValue (if altered then s.fetchBlock a n else s.fetchNow (s.operand a n))

theorem ne_oddOfPair (r : Reg) : r ≠ oddOfPair r := by
  rw [oddOfPair, Ne, left_eq_add]
  decide

section
variable {n : Nat} {r3 b1 b2 : Reg} {d1 d2 : Disp12} (h45 : 45 ∈ s.facilities) (heven : r3.val % 2 = 0)
  (haligned1 : (s.addressSsf d1 b1).toNat % n = 0) (haligned2 : (s.addressSsf d2 b2).toNat % n = 0)
  (hpresent1 : s.present (s.operand (s.addressSsf d1 b1) n) = true)
  (hpresent2 : s.present (s.operand (s.addressSsf d2 b2) n) = true)
include h45 heven haligned1 haligned2 hpresent1 hpresent2

/-- With an even R3 and both operands aligned and in STORAGE, the draw's value says which fetches fill the pair. -/
theorem loadPair_of_present {put : State → Reg → Nat → State} :
    ∃ altered, loadPair n put r3 d1 b1 d2 b2 s =
      .next (((put (put { s with draws := s.draws + 1 } r3 (s.fetchPaired altered (s.addressSsf d1 b1) n))
        (oddOfPair r3) (s.fetchPaired altered (s.addressSsf d2 b2) n)).setCc
          (if altered then 3#2 else 0#2)).advance 6) := by
  refine ⟨Config.lpdAltered s.draws, ?_⟩
  have hdesignation : (r3.val % 2 == 0 && aligned (s.addressSsf d1 b1) n && aligned (s.addressSsf d2 b2) n) = true := by
    rw [aligned_iff.mpr haligned1, aligned_iff.mpr haligned2, heven]
    rfl
  rw [loadPair, requireFacility_of_mem h45, requireDesignation_of_ok hdesignation, requirePresent_of_present hpresent1,
    requirePresent_of_present hpresent2]
  rfl

/-- Everything LPD and LPDG do, when the value fetched enters a register as `widen` says. -/
theorem loadPair_completes {widen : Dword → Nat → Dword}
    (hexec : exec i s = loadPair n (fun u r v => u.setGr r (widen (u.gr r) v)) r3 d1 b1 d2 b2 s) :
    ∃ altered : Bool, Completes i s 6 [r3, oddOfPair r3] (if altered then 3#2 else 0#2) fun t =>
      t.gr r3 = widen (s.gr r3) (s.fetchPaired altered (s.addressSsf d1 b1) n) ∧
      t.gr (oddOfPair r3) = widen (s.gr (oddOfPair r3)) (s.fetchPaired altered (s.addressSsf d2 b2) n) := by
  obtain ⟨altered, hload⟩ := loadPair_of_present h45 heven haligned1 haligned2 hpresent1 hpresent2
  refine ⟨altered, _, hexec.trans hload, rfl, rfl, rfl, ?frame, ⟨rfl, rfl, fun _ => rfl⟩, ?even, ?odd⟩
  case frame =>
    refine s.keeps_update (fun r hr => ?_) ..
    obtain ⟨hne, hodd⟩ := not_or.mp (List.mem_pair.not.mp hr)
    exact (State.gr_setGr_other _ _ hodd).trans (State.gr_setGr_other _ _ hne)
  case even => exact (State.gr_setGr_other _ _ (ne_oddOfPair r3)).trans (State.gr_setGr_self ..)
  case odd =>
    refine (State.gr_setGr_self ..).trans (congrArg (widen · _) ?_)
    exact State.gr_setGr_other _ _ (ne_oddOfPair r3).symm

end

/-- A register that joins the old high word and a new low word. -/
theorem State.lowIs_of_gr_eq {t : State} {r : Reg} {v : Word} (h : t.gr r = joinWords (s.grh r) v) : s.LowIs r v t :=
  ⟨(congrArg lowWord h).trans (lowWord_joinWords ..), (congrArg highWord h).trans (highWord_joinWords ..)⟩

/-- Settles O46: LPD puts what it fetches under the old high words, LPDG into the whole registers. -/
theorem loadPairDisjoint : Obligations.LoadPairDisjoint := by
  intro s r3 b1 b2 d1 d2 h45 heven a1 a2 fetched code
  constructor
  · intro haligned1 haligned2 hpresent1 hpresent2
    obtain ⟨altered, h⟩ := loadPair_completes (i := .lpd r3 d1 b1 d2 b2)
      (widen := fun old v => joinWords (highWord old) (BitVec.ofNat 32 v)) h45 heven haligned1 haligned2 hpresent1
      hpresent2 rfl
    exact ⟨altered, h.imp fun t ⟨h3, hodd⟩ => ⟨State.lowIs_of_gr_eq h3, State.lowIs_of_gr_eq hodd⟩⟩
  · intro haligned1 haligned2 hpresent1 hpresent2
    exact loadPair_completes (widen := fun _ v => BitVec.ofNat 64 v) h45 heven haligned1 haligned2 hpresent1 hpresent2
      rfl

/-! ## Add immediate to storage (42_interlocked_access R183 to R186) -/

section
variable {w n : Nat} {op : BitVec w → BitVec w → Arith w} {imm : BitVec w} {b1 : Reg} {d1 : Disp20} {a : Dword}

/-- On its boundary the operand is updated at one instant, where the facility is installed. -/
theorem addToStorage_of_interlocked (ha : s.addressRsy d1 b1 = a) (h : a.toNat % n = 0 ∧ 45 ∈ s.facilities) :
    addToStorage n op imm d1 b1 s = withInterlocked a n 6 s fun t v =>
      complete 6 (op (BitVec.ofNat w v) imm).overflow s
        (((t.writeStorage a (bytesOf n (op (BitVec.ofNat w v) imm).value)).setCc
          (op (BitVec.ofNat w v) imm).cc).advance 6) := by
  subst ha
  exact if_pos (by simpa [aligned_iff] using h)

/-- Every other operand is fetched and then stored. -/
theorem addToStorage_of_not_interlocked (ha : s.addressRsy d1 b1 = a)
    (h : ¬ (a.toNat % n = 0 ∧ 45 ∈ s.facilities)) :
    addToStorage n op imm d1 b1 s = withUpdate a n 6 s fun v =>
      complete 6 (op (BitVec.ofNat w v) imm).overflow s
        (((s.bufferStore a (bytesOf n (op (BitVec.ofNat w v) imm).value)).setCc
          (op (BitVec.ofNat w v) imm).cc).advance 6) := by
  subst ha
  exact if_neg (by simpa [aligned_iff] using h)

/-- Everything ASI and its kin do, with the operand in STORAGE and outside program text: interlocked or as a fetch and a
store. -/
theorem addToStorage_ends {old : List Byte} {new : BitVec w} {cc : CondCode} {status : CpuStatus} (hs : s.Sound)
    (hn : n ≤ 2 ^ 24) (ha : s.addressRsy d1 b1 = a) (hpresent : s.present (s.operand a n) = true)
    (htext : ∀ x ∈ s.operand a n, s.hasText x = false) (hexec : exec i s = addToStorage n op imm d1 b1 s)
    (hres : s.Delivers 6 (op (BitVec.ofNat w (beValue old)) imm) new cc status) :
    (a.toNat % n = 0 ∧ 45 ∈ s.facilities → old = s.fetchNow (s.operand a n) →
      Ends i s 6 [] cc status fun t => s.StoresSeen t a (bytesOf n new)) ∧
    (¬ (a.toNat % n = 0 ∧ 45 ∈ s.facilities) → old = s.fetchForUpdate a n →
      Ends i s 6 [] cc status fun t => s.StoresUnseen t a (bytesOf n new)) := by
  have hlength : (bytesOf n new).length ≤ 2 ^ 24 := (length_bytesOf n new).trans_le hn
  obtain ⟨rfl, rfl, hstatus⟩ := hres
  constructor
  · rintro hinterlocked rfl
    rw [addToStorage_of_interlocked ha hinterlocked, withInterlocked_of_present hs hpresent htext] at hexec
    exact ends_of_complete (gr := s.cpu.gr) (s.keeps_writeStorage_drainAll ..) hexec hstatus (fun _ _ => rfl)
      ((hs.storesSeen a hlength).ending ..)
  · rintro hordinary rfl
    rw [addToStorage_of_not_interlocked ha hordinary, withUpdate_of_present hpresent htext] at hexec
    exact ends_of_complete (gr := s.cpu.gr) (s.keeps_bufferStore ..) hexec hstatus (fun _ _ => rfl)
      ((s.storesUnseen_bufferStore a hlength).ending ..)

end

end Sys2Proof.Machine

/-! The model has an operation named as the statement on additions to storage, which so stands outside its namespace. -/

namespace Sys2Proof

open Machine

/-- Settles O47: the sum is of the value fetched and the sign-extended immediate, and only ASI and AGSI can overflow. -/
theorem addToStorage : Obligations.AddToStorage := by
  intro s b1 d1 i2 hs a interlocked updated
  refine ⟨fun hpresent htext bs _ => ⟨?asi, ?alsi⟩, fun hpresent htext bs _ => ⟨?agsi, ?algsi⟩⟩
  case asi | agsi =>
    exact addToStorage_ends hs (by decide) rfl hpresent htext rfl (s.delivers_addSigned_signExtend 6 (by decide) ..)
  case alsi | algsi =>
    exact addToStorage_ends hs (by decide) rfl hpresent htext rfl (s.delivers_addLogical_signExtend 6 (by decide) ..)

end Sys2Proof
end

section
/-! PROOFS. The load/store-on-condition facility (43_load_store_on_condition): the copies of a register, the accesses of
storage with a true condition, and both with a false one (R199). -/

namespace Sys2Proof.Machine

variable {i : Instr} {s : State} {n : Nat} {r : Reg} {b2 : Reg} {d2 : Disp20} {m3 : Mask}

/-! ## A result into a whole register -/

/-- An instruction that ends with a written register. -/
theorem ends_of_wholeRegister {v : Dword} {cc : CondCode} {status : CpuStatus}
    (hexec : exec i s = .next (s.ending (s.setGr r v).cpu.gr cc (s.nextPc n) status)) :
    Ends i s n [r] cc status fun t => s.KeepsStorage t ∧ t.gr r = v :=
  ends_of_ending hexec (fun _ hq => s.gr_setGr_other v (List.ne_of_not_mem_cons hq)) (s.gr_setGr_self r v)

/-! ## The copies of a register (43_load_store_on_condition R191, R192) -/

/-- Everything an instruction does that puts `v` into a register when its mask selects the condition code. -/
theorem copyOnCondition_completes {v : Dword} (h45 : 45 ∈ s.facilities)
    (hexec : exec i s = requireFacility n s (.next ((if s.condition m3 then s.setGr r v else s).advance n))) :
    Completes i s n [r] s.cpu.psw.cc fun t =>
      (maskSelects m3 s.cpu.psw.cc → t.gr r = v) ∧ (¬ maskSelects m3 s.cpu.psw.cc → t.gr r = s.gr r) := by
  rw [requireFacility_of_mem h45] at hexec
  by_cases hmask : maskSelects m3 s.cpu.psw.cc
  · rw [if_pos ((s.condition_iff_maskSelects m3).mpr hmask)] at hexec
    have hends : Completes i s n [r] s.cpu.psw.cc fun t => t.gr r = v := ends_of_wholeRegister hexec
    exact hends.imp fun t ht => ⟨fun _ => ht, absurd hmask⟩
  · rw [if_neg ((s.condition_iff_maskSelects m3).not.mpr hmask)] at hexec
    exact ends_of_ending (gr := s.cpu.gr) hexec (fun _ _ => rfl) ⟨fun h => absurd h hmask, fun _ => rfl⟩

/-! ## A true condition (43_load_store_on_condition R193 to R196) -/

/-- With a true condition and its operand in STORAGE a load goes on with the value fetched. -/
theorem loadOnCondition_of_present {put : Nat → State} (h45 : 45 ∈ s.facilities)
    (hmask : maskSelects m3 s.cpu.psw.cc) (hpresent : s.present (s.operand (s.addressRsy d2 b2) n) = true) :
    loadOnCondition n put d2 b2 m3 s =
      .next ((put (beValue (s.fetchOperand (s.addressRsy d2 b2) n))).advance 6) := by
  rw [loadOnCondition, requireFacility_of_mem h45, if_pos ((s.condition_iff_maskSelects m3).mpr hmask), withFetch,
    requirePresent_of_present hpresent]

/-- With a true condition, and its operand in STORAGE and outside program text, a store completes. -/
theorem storeOnCondition_of_present {w : Nat} (v : BitVec w) (h45 : 45 ∈ s.facilities)
    (hmask : maskSelects m3 s.cpu.psw.cc) (hpresent : s.present (s.operand (s.addressRsy d2 b2) n) = true)
    (htext : ∀ x ∈ s.operand (s.addressRsy d2 b2) n, s.hasText x = false) :
    storeOnCondition n v d2 b2 m3 s = .next (s.storing (s.addressRsy d2 b2) (bytesOf n v)) := by
  rw [storeOnCondition, requireFacility_of_mem h45, if_pos ((s.condition_iff_maskSelects m3).mpr hmask), withStore,
    requirePresent_of_present hpresent, requireNoText_of_forall htext, State.storing]

/-- Everything a load with a true condition does, when the value fetched enters its register as `widen` says. -/
theorem loadOnCondition_completes {widen : Nat → Dword} (h45 : 45 ∈ s.facilities)
    (hmask : maskSelects m3 s.cpu.psw.cc) (hpresent : s.present (s.operand (s.addressRsy d2 b2) n) = true)
    (hexec : exec i s = loadOnCondition n (fun v => s.setGr r (widen v)) d2 b2 m3 s) :
    Completes i s 6 [r] s.cpu.psw.cc fun t =>
      t.gr r = widen (beValue (s.fetchOperand (s.addressRsy d2 b2) n)) :=
  ends_of_wholeRegister (hexec.trans (loadOnCondition_of_present h45 hmask hpresent))

/-- Everything a store with a true condition does. -/
theorem storeOnCondition_ends {w : Nat} {v : BitVec w} (h45 : 45 ∈ s.facilities)
    (hmask : maskSelects m3 s.cpu.psw.cc) (hn : n ≤ 2 ^ 24) (hexec : exec i s = storeOnCondition n v d2 b2 m3 s)
    (hpresent : s.present (s.operand (s.addressRsy d2 b2) n) = true)
    (htext : ∀ x ∈ s.operand (s.addressRsy d2 b2) n, s.hasText x = false) :
    Ends i s 6 [] s.cpu.psw.cc s.cpu.status fun t => s.StoresUnseen t (s.addressRsy d2 b2) (bytesOf n v) :=
  ⟨_, hexec.trans (storeOnCondition_of_present v h45 hmask hpresent htext), rfl, rfl, rfl, s.keeps_update_of_gr ..,
    s.storesUnseen_storing _ ((length_bytesOf n v).trans_le hn)⟩

/-! ## A false condition (43_load_store_on_condition R199) -/

/-- With a false condition a load does not fetch. -/
theorem loadOnCondition_of_not_selected {put : Nat → State} (h45 : 45 ∈ s.facilities)
    (hmask : ¬ maskSelects m3 s.cpu.psw.cc) :
    loadOnCondition n put d2 b2 m3 s = conditionFalse (s.addressRsy d2 b2) n 6 s := by
  rw [loadOnCondition, requireFacility_of_mem h45, if_neg ((s.condition_iff_maskSelects m3).not.mpr hmask)]

/-- With a false condition a store does not store. -/
theorem storeOnCondition_of_not_selected {w : Nat} {v : BitVec w} (h45 : 45 ∈ s.facilities)
    (hmask : ¬ maskSelects m3 s.cpu.psw.cc) :
    storeOnCondition n v d2 b2 m3 s = conditionFalse (s.addressRsy d2 b2) n 6 s := by
  rw [storeOnCondition, requireFacility_of_mem h45, if_neg ((s.condition_iff_maskSelects m3).not.mpr hmask)]

section
variable {a : Dword} {il : Nat}

/-- An instruction that only uses up a draw and advances pc. -/
theorem completes_of_skip (hexec : exec i s = .next (({ s with draws := s.draws + 1 } : State).advance il)) :
    Completes i s il [] s.cpu.psw.cc fun _ => True :=
  ⟨_, hexec, rfl, rfl, rfl, s.keeps_update_of_gr .., ⟨rfl, rfl, fun _ => rfl⟩, trivial⟩

/-- An instruction that only uses up a draw and is suppressed. -/
theorem suppressed_of_suppress {e : ProgramException}
    (hexec : exec i s = suppress e il { s with draws := s.draws + 1 }) : Suppressed e il i s :=
  ⟨_, hexec, rfl, rfl, rfl, s.keeps_update_of_gr .., ⟨rfl, rfl, fun _ => rfl⟩⟩

/-- Only an operand outside STORAGE may be an exception, and then the draw's value decides. -/
theorem conditionFalse_skips (hexec : exec i s = conditionFalse a n il s) :
    (s.present (s.operand a n) = true → Completes i s il [] s.cpu.psw.cc fun _ => True) ∧
    (s.present (s.operand a n) = false →
      Completes i s il [] s.cpu.psw.cc (fun _ => True) ∨ Suppressed .addressing il i s) := by
  unfold conditionFalse at hexec
  constructor
  · intro hpresent
    rw [hpresent] at hexec
    exact completes_of_skip hexec
  · intro habsent
    rw [habsent] at hexec
    cases htests : Config.falseConditionTests s.draws with
    | true =>
      rw [htests] at hexec
      exact .inr (suppressed_of_suppress hexec)
    | false =>
      rw [htests] at hexec
      exact .inl (completes_of_skip hexec)

end

end Sys2Proof.Machine

/-! The model has operations named as the statements on loads and stores, which so stand outside its namespace. -/

namespace Sys2Proof

open Machine

/-- Settles O48: LOCR puts the low word of R2 under the old high word of R1, LOCGR copies the whole register. -/
theorem loadRegisterOnCondition : Obligations.LoadRegisterOnCondition := by
  intro s r1 r2 m3 h45
  constructor
  · have hcopy := copyOnCondition_completes (i := .locr r1 r2 m3) (v := joinWords (s.grh r1) (s.grl r2)) h45 rfl
    exact hcopy.imp fun t ⟨hselected, hkept⟩ => ⟨fun h => State.lowIs_of_gr_eq (hselected h), hkept⟩
  · exact copyOnCondition_completes h45 rfl

/-- Settles O49: LOC puts the word fetched under the old high word of R1, LOCG loads the whole register. -/
theorem loadOnCondition : Obligations.LoadOnCondition := by
  intro s r1 b2 d2 m3 h45 hmask a
  refine ⟨fun hpresent => ?loc, fun hpresent => ?locg⟩
  case loc =>
    have hload := loadOnCondition_completes (i := .loc r1 d2 b2 m3)
      (widen := fun v => joinWords (s.grh r1) (BitVec.ofNat 32 v)) h45 hmask hpresent rfl
    exact hload.imp fun t ht => State.lowIs_of_gr_eq ht
  case locg => exact loadOnCondition_completes (widen := BitVec.ofNat 64) h45 hmask hpresent rfl

/-- Settles O50: each is a conditional store of its own length. -/
theorem storeOnCondition : Obligations.StoreOnCondition := by
  intro s r1 b2 d2 m3 h45 hmask a stored
  exact ⟨storeOnCondition_ends h45 hmask (by decide) rfl, storeOnCondition_ends h45 hmask (by decide) rfl⟩

/-- Settles O51: none of the four reaches its access, and what is left is the test that the draw decides. -/
theorem falseCondition : Obligations.FalseCondition := by
  intro s r1 b2 d2 m3 h45 hmask skipped
  refine ⟨?loc, ?locg, ?stoc, ?stocg⟩
  case loc | locg => exact conditionFalse_skips (loadOnCondition_of_not_selected h45 hmask)
  case stoc | stocg => exact conditionFalse_skips (storeOnCondition_of_not_selected h45 hmask)

end Sys2Proof
end

section
/-! PROOFS. The distinct-operands facility (44_distinct_operands): the arithmetic, bitwise and shift results (R201 to
R222) and the registers they enter (R200). -/

namespace Sys2Proof.Machine

variable {i : Instr} {s : State} {n : Nat} {r : Reg} {w : Nat}

/-! ## A result into R1 (44_distinct_operands R200) -/

/-- Everything an instruction with a 32-bit result does. -/
theorem arithmeticLow_ends {res : Arith 32} {v : Word} {cc : CondCode} {status : CpuStatus} (h45 : 45 ∈ s.facilities)
    (hexec : exec i s = arithmeticLow n r res s) (hres : s.Delivers n res v cc status) :
    Ends i s n [r] cc status fun t => s.KeepsStorage t ∧ s.LowIs r v t := by
  obtain ⟨rfl, rfl, rfl⟩ := hres
  rw [arithmeticLow, requireFacility_of_mem h45] at hexec
  have hend := complete_ending s n res.overflow (s.setGrl r res.value).cpu.gr res.cc (s.nextPc n)
  exact ends_of_lowWord (hexec.trans hend)

/-- Everything an instruction with a 64-bit result does. -/
theorem arithmeticFull_ends {res : Arith 64} {v : Dword} {cc : CondCode} {status : CpuStatus}
    (h45 : 45 ∈ s.facilities) (hexec : exec i s = arithmeticFull n r res s) (hres : s.Delivers n res v cc status) :
    Ends i s n [r] cc status fun t => s.KeepsStorage t ∧ t.gr r = v := by
  obtain ⟨rfl, rfl, rfl⟩ := hres
  rw [arithmeticFull, requireFacility_of_mem h45] at hexec
  have hend := complete_ending s n res.overflow (s.setGr r res.value).cpu.gr res.cc (s.nextPc n)
  exact ends_of_wholeRegister (hexec.trans hend)

/-- What holds of the state in which an instruction ends may be replaced by what follows from it. -/
theorem Ends.imp {written : List Reg} {cc : CondCode} {status : CpuStatus} {p q : State → Prop}
    (h : Ends i s n written cc status p) (hpq : ∀ t, p t → q t) : Ends i s n written cc status q := by
  obtain ⟨t, hexec, hpc, hcc, hstatus, hkeeps, hp⟩ := h
  exact ⟨t, hexec, hpc, hcc, hstatus, hkeeps, hpq t hp⟩

/-! ## Signed addition and subtraction (44_distinct_operands R201 to R204, R219, R220) -/

theorem State.delivers_subSigned (s : State) (n : Nat) (hw : 0 < w) (a b : BitVec w) :
    s.Delivers n (subSigned a b) (BitVec.ofInt w (a.toInt - b.toInt)) (exactCode w (a.toInt - b.toInt))
      (s.statusAfter n w (a.toInt - b.toInt)) := by
  rw [subSigned_eq hw]
  exact s.delivers_exactArith ..

/-- A signed addition of a sign-extended immediate of any width is that of its value (30_encoding R110). -/
theorem State.delivers_addSigned_immediate (s : State) (n : Nat) {m : Nat} (hw : 0 < w) (hm : m ≤ w) (a : BitVec w)
    (i2 : BitVec m) :
    s.Delivers n (addSigned a (i2.signExtend w)) (BitVec.ofInt w (a.toInt + i2.toInt))
      (exactCode w (a.toInt + i2.toInt)) (s.statusAfter n w (a.toInt + i2.toInt)) := by
  rw [← BitVec.toInt_signExtend_of_le (x := i2) hm]
  exact s.delivers_addSigned n hw ..

/-- Settles O52: each result is the exact sum or difference of the two operands. -/
theorem signedDistinct : Obligations.SignedDistinct := by
  intro s r1 r2 r3 i2 h45
  refine ⟨?ark, ?agrk, ?ahik, ?aghik, ?srk, ?sgrk⟩
  case ark => exact arithmeticLow_ends h45 rfl (s.delivers_addSigned 4 (by decide) ..)
  case agrk => exact arithmeticFull_ends h45 rfl (s.delivers_addSigned 4 (by decide) ..)
  case ahik => exact arithmeticLow_ends h45 rfl (s.delivers_addSigned_immediate 6 (by decide) (by decide) ..)
  case aghik => exact arithmeticFull_ends h45 rfl (s.delivers_addSigned_immediate 6 (by decide) (by decide) ..)
  case srk => exact arithmeticLow_ends h45 rfl (s.delivers_subSigned 4 (by decide) ..)
  case sgrk => exact arithmeticFull_ends h45 rfl (s.delivers_subSigned 4 (by decide) ..)

/-! ## Logical addition and subtraction (44_distinct_operands R205 to R208, R221, R222) -/

/-- A word is its value, truncated. -/
theorem eq_ofInt_toNat (a : BitVec w) : a = BitVec.ofInt w a.toNat := by
  rw [BitVec.ofInt_natCast, BitVec.ofNat_toNat, BitVec.setWidth_eq]

/-- A logical addition of a second operand that is the truncation of `y` delivers the sum with `y`, truncated. -/
theorem State.delivers_addLogical_ofInt (s : State) (n : Nat) (a : BitVec w) {b : BitVec w} {y : Int}
    (hb : b = BitVec.ofInt w y) :
    s.Delivers n (addLogical a b) (BitVec.ofInt w (a.toNat + y)) (logicalAddCode a b) s.cpu.status where
  value := by
    rw [BitVec.ofInt_add, ← eq_ofInt_toNat, ← hb]
    rfl
  code := addLogical_cc a b
  status := rfl

theorem State.delivers_subLogical (s : State) (n : Nat) (a b : BitVec w) :
    s.Delivers n (subLogical a b) (BitVec.ofInt w (a.toNat - b.toNat)) (logicalSubCode a b) s.cpu.status :=
  ⟨sub_eq_ofInt a b, subLogical_cc a b, rfl⟩

/-- Settles O53: each result is the exact sum or difference, truncated; a sign-extended immediate is its signed value,
truncated. -/
theorem logicalDistinct : Obligations.LogicalDistinct := by
  intro s r1 r2 r3 i2 h45
  refine ⟨?alrk, ?algrk, ?alhsik, ?alghsik, ?slrk, ?slgrk⟩
  case alrk => exact arithmeticLow_ends h45 rfl (s.delivers_addLogical_ofInt 4 _ (eq_ofInt_toNat _))
  case algrk => exact arithmeticFull_ends h45 rfl (s.delivers_addLogical_ofInt 4 _ (eq_ofInt_toNat _))
  case alhsik => exact arithmeticLow_ends h45 rfl (s.delivers_addLogical_ofInt 6 _ rfl)
  case alghsik => exact arithmeticFull_ends h45 rfl (s.delivers_addLogical_ofInt 6 _ rfl)
  case slrk => exact arithmeticLow_ends h45 rfl (s.delivers_subLogical 4 ..)
  case slgrk => exact arithmeticFull_ends h45 rfl (s.delivers_subLogical 4 ..)

/-! ## AND, exclusive OR and OR (44_distinct_operands R209 to R214) -/

/-- Settles O54: each result is the bitwise one, whose bits are those of the operation. -/
theorem bitwiseDistinct : Obligations.BitwiseDistinct := by
  intro s r1 r2 r3 h45
  refine ⟨?nrk, ?ngrk, ?xrk, ?xgrk, ?ork, ?ogrk⟩
  case nrk => exact ⟨_, fun _ _ => BitVec.getMsbD_and, arithmeticLow_ends h45 rfl (s.delivers_bitwise 4 _)⟩
  case ngrk => exact ⟨_, fun _ _ => BitVec.getMsbD_and, arithmeticFull_ends h45 rfl (s.delivers_bitwise 4 _)⟩
  case xrk => exact ⟨_, fun _ _ => BitVec.getMsbD_xor, arithmeticLow_ends h45 rfl (s.delivers_bitwise 4 _)⟩
  case xgrk => exact ⟨_, fun _ _ => BitVec.getMsbD_xor, arithmeticFull_ends h45 rfl (s.delivers_bitwise 4 _)⟩
  case ork => exact ⟨_, fun _ _ => BitVec.getMsbD_or, arithmeticLow_ends h45 rfl (s.delivers_bitwise 4 _)⟩
  case ogrk => exact ⟨_, fun _ _ => BitVec.getMsbD_or, arithmeticFull_ends h45 rfl (s.delivers_bitwise 4 _)⟩

/-! ## Logical shifts (44_distinct_operands R216, R218) -/

/-- A left shift multiplies by the power of two. -/
theorem shiftLeft_eq_ofNat (a : BitVec w) (k : Nat) : a <<< k = BitVec.ofNat w (a.toNat * 2 ^ k) := by
  apply BitVec.eq_of_toNat_eq
  rw [BitVec.toNat_shiftLeft, BitVec.toNat_ofNat, Nat.shiftLeft_eq]

/-- A right shift divides by the power of two. -/
theorem ushiftRight_eq_ofNat (a : BitVec w) (k : Nat) : a >>> k = BitVec.ofNat w (a.toNat / 2 ^ k) := by
  have hlt : a.toNat / 2 ^ k < 2 ^ w := (Nat.div_le_self ..).trans_lt a.isLt
  apply BitVec.eq_of_toNat_eq
  rw [BitVec.toNat_ushiftRight, BitVec.toNat_ofNat, Nat.mod_eq_of_lt hlt, Nat.shiftRight_eq_div_pow]

/-- Settles O57: the shifts multiply and divide by the power of two. -/
theorem shiftLogical : Obligations.ShiftLogical := by
  intro s r1 r3 b2 d2 h45
  dsimp only
  rw [← shiftLeft_eq_ofNat, ← ushiftRight_eq_ofNat]
  exact ⟨ends_of_lowWord (requireFacility_of_mem h45 ..), ends_of_lowWord (requireFacility_of_mem h45 ..)⟩

/-! ## The signed right shift (44_distinct_operands R217) -/

/-- The signed right shift is the exact quotient, rounded down, which is never out of range. -/
theorem shiftRightSigned_eq (a : Word) (k : Nat) : shiftRightSigned a k = exactArith 32 (a.toInt / 2 ^ k) := by
  have hquotient : (a.sshiftRight k).toInt = a.toInt / 2 ^ k := by
    rw [BitVec.toInt_sshiftRight, Int.shiftRight_eq_div_pow, Int.natCast_pow, Nat.cast_ofNat]
  have hvalue : a.sshiftRight k = BitVec.ofInt 32 (a.toInt / 2 ^ k) := by rw [← hquotient, BitVec.ofInt_toInt]
  have hrange : decide (a.toInt / 2 ^ k < -2 ^ (32 - 1) ∨ 2 ^ (32 - 1) ≤ a.toInt / 2 ^ k) = false := by
    rw [← hquotient, decide_eq_false_iff_not, not_or, not_lt, not_le]
    exact ⟨BitVec.le_toInt _, BitVec.toInt_lt⟩
  have hcode : (shiftRightSigned a k).cc = exactCode 32 (a.toInt / 2 ^ k) := by
    rw [← signedCode_ofInt (by decide), hrange, ← hvalue]
    rfl
  exact Arith.ext hvalue hcode hrange.symm

theorem State.delivers_shiftRightSigned (s : State) (n : Nat) (a : Word) (k : Nat) :
    s.Delivers n (shiftRightSigned a k) (BitVec.ofInt 32 (a.toInt / 2 ^ k)) (exactCode 32 (a.toInt / 2 ^ k))
      s.cpu.status :=
  ⟨congrArg Arith.value (shiftRightSigned_eq a k), congrArg Arith.cc (shiftRightSigned_eq a k), rfl⟩

/-- Settles O56: the result is the exact quotient, and no overflow occurs. -/
theorem shiftRightSingle : Obligations.ShiftRightSingle := by
  intro s r1 r3 b2 d2 h45
  exact arithmeticLow_ends h45 rfl (s.delivers_shiftRightSigned ..)

/-! ## The signed left shift (44_distinct_operands R215) -/

/-- The value of bits under a sign: a sign of one counts for minus the power of two above them. -/
def signedValue (sign : Bool) (v : BitVec w) : Int := v.toNat - if sign then 2 ^ w else 0

/-- The numeric part of a word (10_state R35). -/
theorem toNat_numeric (a : Word) : (a.extractLsb' 0 31).toNat = a.toNat % 2 ^ 31 := BitVec.extractLsb'_toNat 0 31 a

/-- A word is its numeric part under its sign. -/
theorem toInt_eq_signedValue (a : Word) : a.toInt = signedValue a.msb (a.extractLsb' 0 31) := by
  have hlt := a.isLt
  rw [signedValue, toNat_numeric, BitVec.toInt_eq_msb_cond, BitVec.msb_eq_decide]
  simp only [decide_eq_true_eq]
  split <;> omega

/-- Thirty-one bits joined to a sign have that sign. -/
theorem msb_ofBool_append (sign : Bool) (v : BitVec 31) : (BitVec.ofBool sign ++ v : Word).msb = sign := by
  cases sign <;> exact BitVec.msb_append

/-- Thirty-one bits joined to a sign are the numeric part. -/
theorem numeric_ofBool_append (sign : Bool) (v : BitVec 31) :
    (BitVec.ofBool sign ++ v : Word).extractLsb' 0 31 = v := BitVec.extractLsb'_append_eq_right

/-- Without the sign, thirty-one bits joined to it keep their value. -/
theorem toNat_ofBool_append_emod (sign : Bool) (v : BitVec 31) :
    ((BitVec.ofBool sign ++ v : Word).toNat : Int) % 2 ^ 31 = v.toNat := by
  have hnumeric := toNat_numeric (BitVec.ofBool sign ++ v)
  rw [numeric_ofBool_append] at hnumeric
  rw [hnumeric]
  rfl

/-- The value is negative when the sign is one. -/
theorem signedValue_neg_iff (sign : Bool) (v : BitVec w) : signedValue sign v < 0 ↔ sign = true := by
  have hlt : (v.toNat : Int) < 2 ^ w := by exact_mod_cast v.isLt
  cases sign <;> simp [signedValue, hlt]

/-- The leading `k` bits are zeros when the value is below the power of two of the others. -/
theorem forall_getMsbD_eq_false_iff {k : Nat} (v : BitVec w) (hk : k ≤ w) :
    (∀ j < k, v.getMsbD j = false) ↔ v.toNat < 2 ^ (w - k) := by
  constructor
  · intro hbits
    refine Nat.lt_pow_two_of_testBit _ fun p hp => ?_
    by_cases hin : p < w
    · have hbit := hbits (w - 1 - p) (by omega)
      rwa [BitVec.getMsbD_eq_getLsbD, decide_eq_true (by omega), Bool.true_and,
        (by omega : w - 1 - (w - 1 - p) = p)] at hbit
    · exact BitVec.getLsbD_of_ge v p (not_lt.mp hin)
  · intro hlt j hj
    have hle : v.toNat < 2 ^ (w - 1 - j) := hlt.trans_le (Nat.pow_le_pow_right Nat.two_pos (by omega))
    have hbit : v.getLsbD (w - 1 - j) = false := Nat.testBit_lt_two_pow hle
    rw [BitVec.getMsbD_eq_getLsbD, hbit, Bool.and_false]

/-- The leading `k` bits are like the sign when the value under it fits into the others and a sign. -/
theorem forall_getMsbD_eq_sign_iff {k : Nat} (sign : Bool) (v : BitVec w) (hk : k ≤ w) :
    (∀ j < k, v.getMsbD j = sign) ↔ -2 ^ (w - k) ≤ signedValue sign v ∧ signedValue sign v < 2 ^ (w - k) := by
  have hlt : v.toNat < 2 ^ w := v.isLt
  have hpos : (0 : Int) < 2 ^ (w - k) := by positivity
  cases sign with
  | false =>
    rw [forall_getMsbD_eq_false_iff v hk]
    simp only [signedValue, Bool.false_eq_true, if_false]
    zify
    omega
  | true =>
    have hnot : (∀ j < k, v.getMsbD j = true) ↔ ∀ j < k, (~~~v).getMsbD j = false :=
      forall₂_congr fun j hj => by simp [BitVec.getMsbD_not, hj.trans_le hk]
    rw [hnot, forall_getMsbD_eq_false_iff _ hk, BitVec.toNat_not]
    have hcast : ((2 ^ w - 1 - v.toNat : Nat) : Int) = 2 ^ w - 1 - v.toNat := by
      rw [Nat.sub_sub, Nat.cast_sub (by omega)]
      push_cast
      ring
    simp only [signedValue, if_true]
    zify
    rw [hcast]
    omega

/-- The signed left shift overflows when the product with the power of two is out of range. -/
theorem shiftLeftSigned_overflow (a : Word) (k : Nat) :
    (shiftLeftSigned a k).overflow =
      decide (a.toInt * 2 ^ min k 31 < -2 ^ (32 - 1) ∨ 2 ^ (32 - 1) ≤ a.toInt * 2 ^ min k 31) := by
  have hk : min k 31 ≤ 31 := min_le_right ..
  have hpos : (0 : Int) < 2 ^ min k 31 := by positivity
  have hsplit : (2 : Int) ^ (32 - 1) = 2 ^ (31 - min k 31) * 2 ^ min k 31 := by
    rw [← pow_add, Nat.sub_add_cancel hk]
  have hlike : (∀ j < min k 31, (a.extractLsb' 0 31).getMsbD j = a.msb) ↔
      ¬ (a.toInt * 2 ^ min k 31 < -2 ^ (32 - 1) ∨ 2 ^ (32 - 1) ≤ a.toInt * 2 ^ min k 31) := by
    rw [forall_getMsbD_eq_sign_iff _ _ hk, ← toInt_eq_signedValue, hsplit, ← neg_mul, mul_lt_mul_iff_left₀ hpos,
      mul_le_mul_iff_left₀ hpos, not_or, not_lt, not_le]
  rw [Bool.eq_iff_iff, decide_eq_true_eq, ← not_iff_not, ← hlike]
  simp [shiftLeftSigned]

/-- The sign does not count modulo its power of two. -/
theorem signedValue_modEq (sign : Bool) (v : BitVec w) : signedValue sign v ≡ v.toNat [ZMOD 2 ^ w] := by
  cases sign <;> simp [signedValue, Int.ModEq]

/-- Modulo `2 ^ w` the exponent need not exceed `w`. -/
theorem two_pow_min_modEq (k w : Nat) : (2 : Int) ^ min k w ≡ 2 ^ k [ZMOD 2 ^ w] := by
  rcases le_total k w with hle | hle
  · rw [min_eq_left hle]
  · rw [min_eq_right hle]
    exact (Int.modEq_zero_iff_dvd.mpr dvd_rfl).trans (Int.modEq_zero_iff_dvd.mpr (pow_dvd_pow 2 hle)).symm

/-- The shifted numeric part is that of the product with the power of two. -/
theorem toNat_numeric_shiftLeft (a : Word) (k : Nat) :
    ((a.extractLsb' 0 31 <<< k).toNat : Int) = a.toInt * 2 ^ min k 31 % 2 ^ 31 := by
  have hproduct := (signedValue_modEq a.msb (a.extractLsb' 0 31)).mul (two_pow_min_modEq k 31)
  rw [← toInt_eq_signedValue] at hproduct
  rw [hproduct.eq, BitVec.toNat_shiftLeft, Nat.shiftLeft_eq]
  push_cast
  rfl

/-- Of a product in range the signed left shift answers all bits. -/
theorem shiftLeftSigned_value (a : Word) (k : Nat)
    (hin : ¬ (a.toInt * 2 ^ min k 31 < -2 ^ (32 - 1) ∨ 2 ^ (32 - 1) ≤ a.toInt * 2 ^ min k 31)) :
    (shiftLeftSigned a k).value = BitVec.ofInt 32 (a.toInt * 2 ^ min k 31) := by
  have hpos : (0 : Int) < 2 ^ min k 31 := by positivity
  have hsign : a.toInt * 2 ^ min k 31 < 0 ↔ a.msb = true := by
    rw [← zero_mul ((2 : Int) ^ min k 31), mul_lt_mul_iff_left₀ hpos, toInt_eq_signedValue, signedValue_neg_iff]
  have hnumeric := toNat_numeric_shiftLeft a k
  have hvalue : (shiftLeftSigned a k).value.toInt = signedValue a.msb (a.extractLsb' 0 31 <<< k) := by
    rw [toInt_eq_signedValue]
    exact congrArg₂ signedValue (msb_ofBool_append ..) (numeric_ofBool_append ..)
  have hproduct : signedValue a.msb (a.extractLsb' 0 31 <<< k) = a.toInt * 2 ^ min k 31 := by
    simp only [signedValue, ← hsign, hnumeric]
    split <;> omega
  rw [← hproduct, ← hvalue, BitVec.ofInt_toInt]

/-- The code of the signed left shift is that of the product with the power of two. -/
theorem shiftLeftSigned_cc (a : Word) (k : Nat) :
    (shiftLeftSigned a k).cc = exactCode 32 (a.toInt * 2 ^ min k 31) := by
  have hcc : (shiftLeftSigned a k).cc = signedCode (shiftLeftSigned a k).overflow (shiftLeftSigned a k).value := rfl
  rw [hcc, shiftLeftSigned_overflow]
  by_cases hout : a.toInt * 2 ^ min k 31 < -2 ^ (32 - 1) ∨ 2 ^ (32 - 1) ≤ a.toInt * 2 ^ min k 31
  · simp only [signedCode, exactCode, hout, decide_true, if_true]
  · rw [shiftLeftSigned_value a k hout, signedCode_ofInt (by decide)]

theorem State.delivers_shiftLeftSigned (s : State) (n : Nat) (a : Word) (k : Nat) :
    s.Delivers n (shiftLeftSigned a k) (BitVec.ofBool a.msb ++ a.extractLsb' 0 31 <<< k)
      (exactCode 32 (a.toInt * 2 ^ min k 31)) (s.statusAfter n 32 (a.toInt * 2 ^ min k 31)) where
  value := rfl
  code := shiftLeftSigned_cc a k
  status := by
    rw [shiftLeftSigned_overflow]
    exact s.statusOnOverflow_exactArith n 32 _

/-- Settles O55: the sign and the shifted numeric part are joined, and what is shifted out tells the product's range. -/
theorem shiftLeftSingle : Obligations.ShiftLeftSingle := by
  intro s r1 r3 b2 d2 h45
  refine (arithmeticLow_ends h45 rfl (s.delivers_shiftLeftSigned 6 ..)).imp fun t ⟨hstorage, hlow⟩ =>
    ⟨hstorage, _, hlow, msb_ofBool_append .., ?_⟩
  rw [toNat_ofBool_append_emod, toNat_numeric_shiftLeft]

end Sys2Proof.Machine
end

section
/-! PROOFS. The population-count facility (45_population_count): the eight counts, read byte by byte (R230). -/

namespace Sys2Proof

/-! ## The bytes of joined values (20_memory R62) -/

theorem bytesOf_byte (b : Byte) : bytesOf 1 b = [b] := congrArg (fun x => [x]) BitVec.extractLsb'_eq_self

/-- A value joined to one more byte has that byte last. -/
theorem bytesOf_append_byte {w : Nat} (n : Nat) (a : BitVec w) (b : Byte) :
    bytesOf (n + 1) (a ++ b) = bytesOf n a ++ [b] := by
  induction n with
  | zero => exact congrArg (fun x => [x]) BitVec.extractLsb'_append_eq_right
  | succ k ih =>
    have hfirst : (a ++ b).extractLsb' (8 * (k + 1)) 8 = a.extractLsb' (8 * k) 8 :=
      BitVec.extractLsb'_append_eq_of_le (Nat.le_mul_of_pos_right 8 k.succ_pos)
    rw [bytesOf, ih, hfirst, bytesOf, List.cons_append]

/-- A doubleword is zero when its eight bytes are. -/
theorem eq_zero_iff_forall_bytesOf (v : Dword) : v = 0#64 ↔ ∀ b ∈ bytesOf 8 v, b = 0#8 := by
  have hbytes : (∀ b ∈ bytesOf 8 v, b = 0#8) ↔ bytesOf 8 v = List.replicate 8 0#8 := by
    rw [List.eq_replicate_iff, length_bytesOf, eq_self, true_and]
  rw [hbytes]
  constructor
  · rintro rfl
    rfl
  · intro hzero
    have hvalue : v.toNat % 256 ^ 8 = 0 := by rw [← beValue_bytesOf, hzero]; rfl
    exact BitVec.eq_of_toNat_eq ((Nat.mod_eq_of_lt v.isLt).symm.trans hvalue)

namespace Machine

/-! ## The count of one byte (45_population_count R230) -/

/-- A count is at most 8, and so fits into its byte. -/
theorem toNat_onesInByte (b : Byte) : (onesInByte b).toNat = (List.range 8).countP fun i => b.getLsbD i := by
  have hle : ((List.range 8).countP fun i => b.getLsbD i) ≤ 8 := List.countP_le_length
  exact (BitVec.toNat_ofNat ..).trans (Nat.mod_eq_of_lt (by omega))

/-- Only a byte of zeros has no one bits. -/
theorem onesInByte_eq_zero_iff (b : Byte) : onesInByte b = 0#8 ↔ b = 0#8 := by
  rw [← BitVec.toNat_inj, toNat_onesInByte]
  constructor
  · intro hcount
    refine BitVec.eq_of_getLsbD_eq fun i hi => ?_
    rw [BitVec.getLsbD_zero]
    exact Bool.eq_false_iff.mpr (List.countP_eq_zero.mp hcount i (List.mem_range.mpr hi))
  · rintro rfl
    rfl

/-- The bits of a byte may be counted from the left. -/
theorem countP_getLsbD_eq_countP_getMsbD (b : Byte) :
    ((List.range 8).countP fun i => b.getLsbD i) = (List.range 8).countP fun j => b.getMsbD j := by
  have hreverse : (List.range 8).reverse = (List.range 8).map (7 - ·) := rfl
  rw [← List.countP_reverse, hreverse, List.countP_map]
  refine List.countP_congr fun j hj => ?_
  have hlt : j < 8 := List.mem_range.mp hj
  simp [BitVec.getMsbD_eq_getLsbD, hlt]

/-- The bits of byte `k` of a doubleword, from the left (45_population_count R230). -/
theorem getMsbD_byte (v : Dword) {k j : Nat} (hk : k < 8) (hj : j < 8) :
    (v.extractLsb' (8 * (7 - k)) 8).getMsbD j = v.getMsbD (8 * k + j) := by
  have hin : 8 * k + j < 64 := by omega
  have hplace : 8 * (7 - k) + (8 - 1 - j) = 64 - 1 - (8 * k + j) := by omega
  have hbelow : 8 - 1 - j < 8 := by omega
  simp only [BitVec.getMsbD_eq_getLsbD, BitVec.getLsbD_extractLsb', hj, hin, hplace, hbelow, decide_true, Bool.true_and]

/-- The count of byte `k` is that of its one bits, from the left. -/
theorem toNat_onesOfByte (v : Dword) {k : Nat} (hk : k < 8) :
    (onesOfByte v k).toNat = ((List.range 8).filter fun j => v.getMsbD (8 * k + j)).length := by
  rw [onesOfByte, toNat_onesInByte, countP_getLsbD_eq_countP_getMsbD, ← List.countP_eq_length_filter]
  exact List.countP_congr fun j hj => by rw [getMsbD_byte v hk (List.mem_range.mp hj)]

/-! ## The eight counts (45_population_count R230) -/

/-- The bytes of the result are the counts of the bytes of the source. -/
theorem bytesOf_populationCount (v : Dword) :
    bytesOf 8 (populationCount v).value = (bytesOf 8 v).map onesInByte := by
  simp only [populationCount, bitwise, bytesOf_append_byte, bytesOf_byte]
  rfl

theorem populationCount_value_byte (v : Dword) {k : Nat} (hk : k < 8) :
    (populationCount v).value.extractLsb' (8 * (7 - k)) 8 = onesOfByte v k := by
  have hresult : k < (bytesOf 8 (populationCount v).value).length := by rwa [length_bytesOf]
  have hsource : k < (bytesOf 8 v).length := by rwa [length_bytesOf]
  calc (populationCount v).value.extractLsb' (8 * (7 - k)) 8
    _ = (bytesOf 8 (populationCount v).value)[k] := (getElem_bytesOf 8 _ k hresult).symm
    _ = onesInByte (bytesOf 8 v)[k] := by simp only [bytesOf_populationCount, List.getElem_map]
    _ = onesOfByte v k := congrArg onesInByte (getElem_bytesOf 8 v k hsource)

/-- The result is zero when the source is, and the condition code says so (D14). -/
theorem populationCount_cc (v : Dword) : (populationCount v).cc = zeroCode v := by
  have hzero : (populationCount v).value = 0#64 ↔ v = 0#64 := by
    rw [eq_zero_iff_forall_bytesOf, eq_zero_iff_forall_bytesOf v, bytesOf_populationCount, List.forall_mem_map]
    simp only [onesInByte_eq_zero_iff]
  exact if_congr hzero rfl rfl

/-- Everything POPCNT does. -/
theorem popcnt_completes {s : State} (r1 r2 : Reg) (h45 : 45 ∈ s.facilities) :
    Completes (.popcnt r1 r2) s 4 [r1] (zeroCode (s.gr r2)) fun t =>
      t.gr r1 = (populationCount (s.gr r2)).value := by
  rw [← populationCount_cc]
  exact ends_of_wholeRegister (requireFacility_of_mem h45 ..)

end Machine

/-! The model has a result named as the statement on the counts, which so stands outside its namespace. -/

open Machine

/-- Settles O58: R1 holds the eight counts, and byte `k` of them counts byte `k` of the source. -/
theorem populationCount : Obligations.PopulationCount := by
  intro s r1 r2 h45
  refine (popcnt_completes r1 r2 h45).imp fun t ht k hk => ?_
  rw [ht, populationCount_value_byte _ hk, toNat_onesOfByte _ hk]

end Sys2Proof
end

section
/-! PROOFS. The instructions that the source names without an effect: the floating-point extension
(46_floating_point_extension R241) and the message-security-assist extensions (47_message_security_assist R320). -/

namespace Sys2Proof.Machine

variable {i : Instr} {s : State} {r : Refusal}

/-- Only a store into program text is refused to a well-formed instruction (00_scope R5, 30_encoding R127). -/
theorem wellFormed_eq_false_of_refused (h : exec i s = .refused r) (hr : r ≠ .storeIntoProgramText) :
    i.wellFormed = false := by
  refine Bool.eq_false_iff.mpr fun hwell => ?_
  rcases exec_runs_of_wellFormed hwell s with ⟨t, hnext⟩ | htext
  · cases h.symm.trans hnext
  · cases h.symm.trans htext
    exact hr rfl

/-- The floating-point-extension instructions are refused, whatever the state (46_floating_point_extension R241). -/
theorem exec_of_floatingPoint (h : instrGroup i = .floatingPoint) :
    ∃ m, ∀ s, exec i s = .refused (.floatingPointUndefined m) := by
  cases i with
  | cxlfbr | cdlfbr | celfbr | cxlgbr | cdlgbr | celgbr | clfxbr | clfdbr | clfebr | clgxbr | clgdbr | clgebr
  | srnmb | cxfbra | cdfbra | cefbra | cxgbra | cdgbra | cegbra | cfxbra | cfdbra | cfebra | cgxbra | cgdbra
  | cgebra | fixbra | fidbra | fiebra | ldxbra | lexbra | ledbra | cxftr | cdftr | cxlftr | cdlftr | cxlgtr
  | cdlgtr | cfxtr | cfdtr | clfxtr | clfdtr | clgxtr | clgdtr | axtra | adtra | cxgtra | cdgtra | cgxtra
  | cgdtra | dxtra | ddtra | mxtra | mdtra | sxtra | sdtra => exact ⟨_, fun _ => rfl⟩
  | _ => cases h

/-- The message-security-assist extensions are refused, whatever the state: also in the problem state, and without their
facilities (47_message_security_assist R320; log 20). -/
theorem exec_of_cryptographic (h : instrGroup i = .cryptographic) :
    ∃ m, ∀ s, exec i s = .refused (.cryptographicUndefined m) := by
  cases i with
  | pckmo | kmf | kmctr | kmo | pcc => exact ⟨_, fun _ => rfl⟩
  | _ => cases h

/-- Settles O33: each of the two groups is refused under its own name, and what is refused so is not well formed. -/
theorem undefinedRefused : Obligations.UndefinedRefused := by
  refine fun i s => ⟨fun hgroup => ?_, fun hgroup => ?_⟩
  · obtain ⟨m, hrefused⟩ := exec_of_floatingPoint hgroup
    exact ⟨⟨m, hrefused s⟩, wellFormed_eq_false_of_refused (hrefused s) nofun⟩
  · obtain ⟨m, hrefused⟩ := exec_of_cryptographic hgroup
    exact ⟨⟨m, hrefused s⟩, wellFormed_eq_false_of_refused (hrefused s) nofun⟩

end Sys2Proof.Machine
end

section
/-! PROOFS. Exceptions (60_exceptions): what taking one does, which check suppresses an instruction (R354 to R356), and
the stores of the channel subsystem (R368). -/

namespace Sys2Proof.Machine

variable {i : Instr} {s : State} {n : Nat}

/-! ## Taking an exception (60_exceptions R350, R351) -/

/-- Settles O27: the fault state is the one field that is set, and the codes stand in the definition. -/
theorem takingAnException : Obligations.TakingAnException :=
  ⟨fun _ _ _ _ => ⟨rfl, rfl⟩, rfl, rfl, rfl, rfl, rfl, rfl, rfl, rfl⟩

/-! ## What a check suppresses (60_exceptions R360, R361) -/

/-- An instruction that ends in a suppressing exception has changed nothing but the CPU's status. -/
theorem suppressed_of_exec {e : ProgramException} (hexec : exec i s = suppress e n s) : Suppressed e n i s :=
  ⟨_, hexec, rfl, rfl, rfl, s.keeps_update_of_gr .., ⟨rfl, rfl, fun _ => rfl⟩⟩

theorem requireFacility_of_notMem (h : 45 ∉ s.facilities) (n : Nat) (k : Result) :
    requireFacility n s k = suppress .operation n s := if_neg (by simpa using h)

theorem requireDesignation_of_not_ok {ok : Bool} (h : ok = false) (n : Nat) (s : State) (k : Result) :
    requireDesignation ok n s k = suppress .specification n s := if_neg (Bool.eq_false_iff.mp h)

theorem requirePresent_of_absent {as : List Nat} (h : s.present as = false) (n : Nat) (k : Result) :
    requirePresent as n s k = suppress .addressing n s := if_neg (Bool.eq_false_iff.mp h)

/-! ## Operation exceptions (60_exceptions R354) -/

/-- An instruction of the facilities that bit 45 indicates begins with the check of that bit. -/
theorem exec_of_facility45 (h : instrGroup i = .facility45 n) (s : State) : ∃ k, exec i s = requireFacility n s k := by
  cases i with
  | ahhhr | ahhlr | alhhhr | alhhlr | chhr | chlr | clhhr | clhlr | shhhr | shhlr | slhhhr | slhhlr | locr | locgr
  | ark | agrk | alrk | algrk | nrk | ngrk | xrk | xgrk | ork | ogrk | srk | sgrk | slrk | slgrk | popcnt
  | aih | alsih | alsihn | brcth | chf | cih | clhf | clih | lbh | lhh | lfh | llch | llhh | risbhg | risblg
  | stch | sthh | stfh | laa | laag | laal | laalg | lan | lang | lax | laxg | lao | laog | lpd | lpdg
  | loc | locg | stoc | stocg | ahik | aghik | alhsik | alghsik | slak | sllk | srak | srlk =>
    cases h
    exact ⟨_, rfl⟩
  | _ => cases h

/-- Settles O28: the check of facility bit 45 comes before everything else. -/
theorem operationException : Obligations.OperationException := by
  intro i s n hgroup h45
  obtain ⟨k, hexec⟩ := exec_of_facility45 hgroup s
  exact suppressed_of_exec (hexec.trans (requireFacility_of_notMem h45 n k))

/-! ## Specification exceptions (60_exceptions R355) -/

/-- An operand off its integral boundary. -/
theorem aligned_eq_false_iff {a : Dword} {n : Nat} : aligned a n = false ↔ a.toNat % n ≠ 0 := decide_eq_false_iff_not

/-- A designation that is not valid suppresses an instruction whose meaning checks it next to the facility bit. -/
theorem suppressed_of_designation {ok : Bool} {k : Result} (h45 : 45 ∈ s.facilities) (hok : ok = false)
    (hexec : exec i s = requireFacility n s (requireDesignation ok n s k)) : Suppressed .specification n i s := by
  rw [requireFacility_of_mem h45, requireDesignation_of_not_ok hok] at hexec
  exact suppressed_of_exec hexec

/-- What LPD and LPDG check of their operand designation. -/
theorem pairDesignation_eq_false {r3 : Reg} {a1 a2 : Dword}
    (h : r3.val % 2 = 1 ∨ a1.toNat % n ≠ 0 ∨ a2.toNat % n ≠ 0) :
    (r3.val % 2 == 0 && aligned a1 n && aligned a2 n) = false := by
  rcases h with hodd | h1 | h2
  · simp [hodd]
  · simp [aligned_eq_false_iff.mpr h1]
  · simp [aligned_eq_false_iff.mpr h2]

/-- Settles O29: the designation is checked before the operand is looked for in STORAGE. -/
theorem specificationException : Obligations.SpecificationException := by
  intro s r1 r3 b2 b1 d2 e1 e2 h45
  refine ⟨fun h4 i hi => ?word, fun h8 i hi => ?doubleword, fun hpair => ?lpd, fun hpair => ?lpdg⟩
  case word =>
    simp only [List.mem_cons, List.not_mem_nil, or_false] at hi
    rcases hi with rfl | rfl | rfl | rfl | rfl <;> exact suppressed_of_designation h45 (aligned_eq_false_iff.mpr h4) rfl
  case doubleword =>
    simp only [List.mem_cons, List.not_mem_nil, or_false] at hi
    rcases hi with rfl | rfl | rfl | rfl | rfl <;> exact suppressed_of_designation h45 (aligned_eq_false_iff.mpr h8) rfl
  case lpd | lpdg => exact suppressed_of_designation h45 (pairDesignation_eq_false hpair) rfl

/-! ## Addressing exceptions (60_exceptions R356) -/

section
variable {as : List Nat} {k : Result}

/-- An operand outside STORAGE suppresses an instruction that has come as far as looking for it there. -/
theorem suppressed_of_absent (habsent : s.present as = false) (hexec : exec i s = requirePresent as n s k) :
    Suppressed .addressing n i s := suppressed_of_exec (hexec.trans (requirePresent_of_absent habsent n k))

/-- A meaning that looks for its operand next to the facility bit. -/
theorem suppressed_of_absent_storage (h45 : 45 ∈ s.facilities) (habsent : s.present as = false)
    (hexec : exec i s = requireFacility n s (requirePresent as n s k)) : Suppressed .addressing n i s :=
  suppressed_of_absent habsent (hexec.trans (requireFacility_of_mem h45 n _))

/-- A meaning that looks for its operand when its condition holds. -/
theorem suppressed_of_absent_selected {m3 : Mask} {k' : Result} (h45 : 45 ∈ s.facilities)
    (hmask : maskSelects m3 s.cpu.psw.cc) (habsent : s.present as = false)
    (hexec : exec i s = requireFacility n s (if s.condition m3 then requirePresent as n s k else k')) :
    Suppressed .addressing n i s := by
  rw [if_pos ((s.condition_iff_maskSelects m3).mpr hmask)] at hexec
  exact suppressed_of_absent_storage h45 habsent hexec

/-- A meaning that looks for its operand when its designation is valid. -/
theorem suppressed_of_absent_designated {ok : Bool} (h45 : 45 ∈ s.facilities) (hok : ok = true)
    (habsent : s.present as = false)
    (hexec : exec i s = requireFacility n s (requireDesignation ok n s (requirePresent as n s k))) :
    Suppressed .addressing n i s := by
  rw [requireDesignation_of_ok hok] at hexec
  exact suppressed_of_absent_storage h45 habsent hexec

end

/-- ASI and its kin look for their operand, whether the update is to be interlocked or not. -/
theorem addToStorage_of_absent {w : Nat} {f : BitVec w → BitVec w → Arith w} {v : BitVec w} {d : Disp20} {b : Reg}
    (habsent : s.present (s.operand (s.addressRsy d b) n) = false) :
    addToStorage n f v d b s = suppress .addressing 6 s := by
  simp only [addToStorage, withInterlocked, withUpdate, requirePresent_of_absent habsent, ite_self]

/-- Settles O30: each family looks for its operand when the checks before it are passed. -/
theorem addressingException : Obligations.AddressingException := by
  intro s r1 r3 x2 b2 d2 m3 i2 h45 a c
  refine ⟨fun habsent i hi => ?byte, fun habsent i hi => ?halfword, fun habsent i hi => ?word,
    fun habsent => ⟨fun i hi => ?add32, fun hmask i hi => ?conditional32, fun h4 i hi => ?update32⟩,
    fun habsent => ⟨fun i hi => ?add64, fun hmask i hi => ?conditional64, fun h8 i hi => ?update64⟩⟩ <;>
    simp only [List.mem_cons, List.not_mem_nil, or_false] at hi
  case byte | halfword => rcases hi with rfl | rfl | rfl <;> exact suppressed_of_absent_storage h45 habsent rfl
  case word => rcases hi with rfl | rfl | rfl | rfl <;> exact suppressed_of_absent_storage h45 habsent rfl
  case add32 | add64 => rcases hi with rfl | rfl <;> exact suppressed_of_exec (addToStorage_of_absent habsent)
  case conditional32 | conditional64 =>
    rcases hi with rfl | rfl <;> exact suppressed_of_absent_selected h45 hmask habsent rfl
  case update32 =>
    rcases hi with rfl | rfl | rfl | rfl | rfl <;>
      exact suppressed_of_absent_designated h45 (aligned_iff.mpr h4) habsent rfl
  case update64 =>
    rcases hi with rfl | rfl | rfl | rfl | rfl <;>
      exact suppressed_of_absent_designated h45 (aligned_iff.mpr h8) habsent rfl

/-- LPD and LPDG look for both operands before they load a register, the first operand first. -/
theorem suppressed_of_absent_pair {put : State → Reg → Nat → State} {r3 b1 b2 : Reg} {d1 d2 : Disp12}
    (h45 : 45 ∈ s.facilities) (heven : r3.val % 2 = 0) (h1 : (s.addressSsf d1 b1).toNat % n = 0)
    (h2 : (s.addressSsf d2 b2).toNat % n = 0)
    (habsent : s.present (s.operand (s.addressSsf d1 b1) n) = false ∨
      s.present (s.operand (s.addressSsf d2 b2) n) = false)
    (hexec : exec i s = loadPair n put r3 d1 b1 d2 b2 s) : Suppressed .addressing 6 i s := by
  have hok : (r3.val % 2 == 0 && aligned (s.addressSsf d1 b1) n && aligned (s.addressSsf d2 b2) n) = true := by
    simp [heven, aligned_iff.mpr h1, aligned_iff.mpr h2]
  cases hfirst : s.present (s.operand (s.addressSsf d1 b1) n) with
  | false => exact suppressed_of_absent_designated h45 hok hfirst hexec
  | true =>
    have hsecond : s.present (s.operand (s.addressSsf d2 b2) n) = false := by simpa [hfirst] using habsent
    simp only [loadPair, requirePresent_of_present hfirst] at hexec
    exact suppressed_of_absent_designated h45 hok hsecond hexec

/-- Settles O31: LPD and LPDG are the pair loads of words and of doublewords. -/
theorem pairAddressingException : Obligations.PairAddressingException := by
  intro s r3 b1 b2 d1 d2 h45 heven a1 a2
  exact ⟨fun h1 h2 habsent => suppressed_of_absent_pair h45 heven h1 h2 habsent rfl,
    fun h1 h2 habsent => suppressed_of_absent_pair h45 heven h1 h2 habsent rfl⟩

/-! ## The channel subsystem (60_exceptions R368) -/

section
variable {a : Nat} {bytes : List Byte} {buffers : List Region}

/-- The addresses of the channel subsystem's store, one after another. -/
theorem mem_channelAddresses {x : Nat} : x ∈ channelAddresses a bytes ↔ ∃ j < bytes.length, a + j = x := by
  simp [channelAddresses]

theorem length_channelAddresses : (channelAddresses a bytes).length = bytes.length := by simp [channelAddresses]

/-- The cells of the channel subsystem's store lie at its addresses. -/
theorem map_fst_channelCells : ((channelAddresses a bytes).zip bytes).map (·.1) = channelAddresses a bytes :=
  List.map_fst_zip length_channelAddresses.le

/-- The cells of the channel subsystem's store lie at different addresses. -/
theorem nodup_channelCells : (((channelAddresses a bytes).zip bytes).map (·.1)).Nodup := by
  rw [map_fst_channelCells]
  exact List.nodup_range.map fun _ _ h => Nat.add_left_cancel h

/-- Each byte of the channel subsystem's store has a cell. -/
theorem mem_channelCells {j : Nat} (hj : j < bytes.length) :
    (a + j, bytes[j]) ∈ (channelAddresses a bytes).zip bytes :=
  List.mem_iff_getElem.mpr ⟨j, by simpa [channelAddresses] using hj, by simp [channelAddresses]⟩

/-- Some addresses are in STORAGE when each of them is. -/
theorem State.present_iff {as : List Nat} : s.present as = true ↔ ∀ x ∈ as, s.present [x] = true := by
  simp [State.present]

/-- Without a channel subsystem nothing is stored by one (log 29). -/
theorem channelStore_of_none (h : s.channel = none) : channelStore a bytes s = .refused .inadmissibleMove := by
  simp only [channelStore, h]

/-- A byte outside the buffer regions (log 12). -/
theorem channelStore_of_outside (h : s.channel = some buffers)
    (houtside : ∃ j < bytes.length, buffers.any (·.has (a + j)) = false) :
    channelStore a bytes s = .refused .inadmissibleMove := by
  obtain ⟨j, hj, hout⟩ := houtside
  have hall : (channelAddresses a bytes).all (fun x => buffers.any (·.has x)) = false :=
    List.all_eq_false.mpr ⟨a + j, mem_channelAddresses.mpr ⟨j, hj, rfl⟩, Bool.eq_false_iff.mp hout⟩
  simp [channelStore, h, hall]

/-- Bytes in the buffer regions, in STORAGE and outside program text. -/
theorem channelStore_of_inside (h : s.channel = some buffers)
    (hinside : ∀ j < bytes.length, buffers.any (·.has (a + j)) = true ∧ s.present [a + j] = true ∧
      s.hasText (a + j) = false) :
    channelStore a bytes s =
      .next { s with storage := Memory.writeCells s.storage ((channelAddresses a bytes).zip bytes) } := by
  have heach : ∀ x ∈ channelAddresses a bytes,
      buffers.any (·.has x) = true ∧ s.present [x] = true ∧ s.hasText x = false := fun x hx => by
    obtain ⟨j, hj, rfl⟩ := mem_channelAddresses.mp hx
    exact hinside j hj
  simp only [imp_and, forall_and] at heach
  obtain ⟨hregions, hpresent, htext⟩ := heach
  have hall : (channelAddresses a bytes).all (fun x => buffers.any (·.has x)) = true := List.all_eq_true.mpr hregions
  simp only [channelStore, h, hall, State.present_iff.mpr hpresent, Bool.and_self, if_true, requireNoText_of_forall htext]

end

/-- A step makes the move that comes first in the schedule. -/
theorem step_of_schedule {m : Move} {rest : List Move} (h : s.schedule = m :: rest) :
    step s = perform m { s with schedule := rest } := by simp only [step, h]

/-- Settles O26: the move is refused, or writes one cell for each byte. -/
theorem channelStores : Obligations.ChannelStores := by
  intro s a bytes rest hs hmoves
  have hstep : step s = channelStore a bytes { s with schedule := rest } := step_of_schedule hmoves
  refine ⟨fun hnone => hstep.trans (channelStore_of_none hnone), fun buffers hchannel => ⟨fun houtside =>
    hstep.trans (channelStore_of_outside hchannel houtside), fun hinside => ?_⟩⟩
  refine ⟨_, hstep.trans (channelStore_of_inside hchannel hinside), fun j hj => ?_, fun x hx => ?_, rfl,
    ⟨rfl, rfl, rfl, rfl, rfl, rfl⟩⟩
  · exact Memory.read_writeCells_mem _ hs.canonical nodup_channelCells (mem_channelCells hj)
  · refine Memory.read_writeCells_other _ hs.canonical fun c hc heq => ?_
    obtain ⟨j, hj, hx'⟩ := mem_channelAddresses.mp (List.of_mem_zip hc).1
    omega

end Sys2Proof.Machine
end

section
/-! PROOFS. The end of a run (70_reset_and_hazards R383): a CPU finishes at an end address, the run is over when every CPU
has stopped, and a CPU that has stopped stays as it is (60_exceptions R362). -/

namespace Sys2Proof.Machine

variable {s t u : State}

/-! ## End addresses -/

/-- At an end address the active CPU finishes, before anything is fetched. -/
theorem runActive_of_end (hend : s.cpu.psw.pc ∈ s.cpu.endAddresses) : runActive s = .next s.finish :=
  if_pos (List.contains_iff_mem.mpr hend)

/-- Settles O8: the end addresses do not depend on the schedule. -/
theorem endAddressFinishes : Obligations.EndAddressFinishes := fun s hop hend =>
  State.stepIs_of_runActive hop fun moves => runActive_of_end (s := { s with schedule := moves }) hend

/-! ## The end of the run -/

/-- A CPU that does not execute instructions has stopped. -/
theorem Cpu.isOperating_eq_false_iff {c : Cpu} : c.isOperating = false ↔ c.status ≠ .operating := by
  simp [Cpu.isOperating]

/-- No instruction answers a fault. -/
theorem exec_ne_fault (i : Instr) (s : State) (f : Fault) : exec i s ≠ .fault f := by
  intro hfault
  rcases exec_runs i with hruns | ⟨-, r, hrefused⟩
  · rcases hruns s with ⟨t, hnext⟩ | htext
    · cases hfault.symm.trans hnext
    · cases hfault.symm.trans htext
  · cases hfault.symm.trans (hrefused s)

/-- The active CPU finishes, takes an exception, executes or is refused, and none of them is a fault. -/
theorem runActive_ne_fault (s : State) (f : Fault) : runActive s ≠ .fault f := by
  unfold runActive
  split
  · nofun
  · split
    · nofun
    · split
      · exact exec_ne_fault _ s f
      · split <;> nofun

/-- Draining makes no fault. -/
theorem Result.drained_ne_fault {r : Result} {f : Fault} (h : r ≠ .fault f) : r.drained ≠ .fault f := by
  cases r with
  | next | refused => nofun
  | fault => exact h

/-- Draining and switching answer no fault. -/
theorem orInadmissible_ne_fault (o : Option State) (f : Fault) : orInadmissible o ≠ .fault f := by
  cases o <;> nofun

/-- With an empty schedule the run is over when the active CPU has stopped and no other one operates. -/
theorem runUnscheduled_eq_runOver_iff :
    runUnscheduled s = .fault .runOver ↔ s.cpu.isOperating = false ∧ ∀ c ∈ s.others, c.isOperating = false := by
  unfold runUnscheduled
  cases hactive : s.cpu.isOperating with
  | true => simp [Result.drained_ne_fault (runActive_ne_fault s .runOver)]
  | false =>
    cases hnext : s.others.findIdx? (·.isOperating) with
    | none => simpa using List.findIdx?_eq_none_iff.mp hnext
    | some k =>
      have hsome : ¬ ∀ c ∈ s.others, c.isOperating = false := fun h => by
        cases hnext.symm.trans (List.findIdx?_eq_none_iff.mpr h)
      simp [orInadmissible_ne_fault, hsome]

/-- Settles O9: the active CPU goes first, and then the first of the others that operates. -/
theorem runOver : Obligations.RunOver := by
  intro s hempty
  have hstep : step s = runUnscheduled s := by simp only [step, hempty]
  rw [hstep, runUnscheduled_eq_runOver_iff, State.cpus, List.forall_mem_cons]
  simp only [Cpu.isOperating_eq_false_iff]

/-! ## Stopped CPUs -/

/-- Every CPU that has stopped is still there, with everything but its store buffer as before. -/
def State.KeepsStopped (s t : State) : Prop :=
  ∀ c ∈ s.cpus, c.status ≠ .operating → ∃ d ∈ t.cpus, { d with buffer := c.buffer } = c

/-- Where the same CPUs are there, in any order, each is as before. -/
theorem State.KeepsStopped.of_perm (h : t.cpus.Perm s.cpus) : s.KeepsStopped t :=
  fun c hc _ => ⟨c, h.mem_iff.mpr hc, rfl⟩

/-- A change of the active CPU leaves the stopped ones, when that CPU operates or only its buffer changes. -/
theorem State.KeepsStopped.of_others (hothers : t.others = s.others)
    (hcpu : s.cpu.status = .operating ∨ { t.cpu with buffer := s.cpu.buffer } = s.cpu) : s.KeepsStopped t := by
  refine List.forall_mem_cons.mpr ⟨fun hstopped => ?active, fun c hc _ => ?other⟩
  case active => exact ⟨t.cpu, List.mem_cons_self, hcpu.resolve_left hstopped⟩
  case other => exact ⟨c, List.mem_cons_of_mem _ (hothers ▸ hc), rfl⟩

theorem State.KeepsStopped.trans (hst : s.KeepsStopped t) (htu : t.KeepsStopped u) : s.KeepsStopped u := by
  intro c hc hstopped
  obtain ⟨d, hd, hdc⟩ := hst c hc hstopped
  have hstatus : d.status = c.status := congrArg (·.status) hdc
  obtain ⟨e, he, hed⟩ := htu d hd (hstatus ▸ hstopped)
  refine ⟨e, he, ?_⟩
  calc { e with buffer := c.buffer } = { { e with buffer := d.buffer } with buffer := c.buffer } := rfl
    _ = { d with buffer := c.buffer } := by rw [hed]
    _ = c := hdc

/-- What the active CPU runs leaves the other CPUs. -/
theorem others_of_runActive (h : runActive s = .next t) : t.others = s.others := by
  rcases runActive_effect h with rfl | heffect
  · rfl
  · exact heffect.keeps.others

/-- Every move leaves the stopped CPUs: only an operating CPU executes or fetches early, and the other moves touch store
buffers, storage, or which CPU is the active one. -/
theorem perform_keepsStopped {m : Move} (h : perform m s = .next t) : s.KeepsStopped t := by
  cases m with
  | execute =>
    simp only [perform] at h
    split at h
    · rename_i hop
      exact .of_others (others_of_runActive h) (.inl (beq_iff_eq.mp hop))
    · cases h
  | drain p =>
    obtain ⟨st, rest, cells, -, -, rfl⟩ := State.drainPiece_some (orInadmissible_next h)
    exact .of_others rfl (.inr rfl)
  | fetchEarly a n =>
    simp only [perform] at h
    split at h
    · rename_i hcan
      obtain ⟨hop, -⟩ := Bool.and_eq_true_iff.mp hcan
      cases h
      exact .of_others rfl (.inl (beq_iff_eq.mp hop))
    · cases h
  | switchTo k => exact .of_perm (State.switchTo_perm (orInadmissible_next h))
  | channelStore a bytes =>
    obtain ⟨-, -, rfl⟩ := channelStore_next h
    exact .of_others rfl (.inr rfl)

/-- With an empty schedule the stopped CPUs stay too: draining touches the active CPU's buffer only. -/
theorem runUnscheduled_keepsStopped (h : runUnscheduled s = .next t) : s.KeepsStopped t := by
  unfold runUnscheduled at h
  split at h
  · rename_i hop
    obtain ⟨v, hrun, rfl⟩ := Result.drained_next h
    have hothers : v.drainAll.others = s.others := v.drainAll_others.trans (others_of_runActive hrun)
    exact .of_others hothers (.inl (beq_iff_eq.mp hop))
  · split at h
    · have hdrained : s.KeepsStopped s.drainAll := .of_others rfl (.inr rfl)
      exact hdrained.trans (.of_perm (State.switchTo_perm (orInadmissible_next h)))
    · cases h

/-- Settles O16: a step is a move, or what happens when the schedule is empty. -/
theorem stoppedIsTerminal : Obligations.StoppedIsTerminal := by
  intro s t h
  show s.KeepsStopped t
  cases hmoves : s.schedule with
  | nil =>
    simp only [step, hmoves] at h
    exact runUnscheduled_keepsStopped h
  | cons m rest =>
    rw [step_of_schedule hmoves] at h
    exact (State.KeepsStopped.of_perm (t := { s with schedule := rest }) (.refl _)).trans (perform_keepsStopped h)

end Sys2Proof.Machine
end
